-- ==== Sys2Proof/Word.lean ====
section
/-! DEFINITION. The two widths of CORE: 8-bit data and 16-bit addresses (00_scope.md R8, R10). -/

namespace Sys2Proof

/-- 8 bits: the data width, A, X, Y and SP. `+` and `-` are modulo 256 (R10). -/
abbrev Byte := BitVec 8

/-- 16 bits: the address width and PC. `+` and `-` are modulo 65 536 (R10). -/
abbrev Word := BitVec 16

end Sys2Proof
end

