-- ==== Sys2Proof/Config.lean ====
section
/-! DEFINITION. What an instance of CORE fixes and its rules leave open: the parameters of
00_scope.md R9, and the free values a reset instance gives them. -/

namespace Sys2Proof

/-- The eleven addressing modes (R8, R101). A branch uses the immediate mode (R113) and the accumulator
form of a shift the implied mode (R102). -/
inductive Mode where
  | implied | immediate | zeroPage | zeroPageX | zeroPageY | absolute | absoluteX | absoluteY
  | indirect | indirectX | indirectY
  deriving DecidableEq, Repr, Inhabited

/-- RESET_PC_SOURCE (R9, R271): where `reset` takes PC from. -/
inductive ResetPcSource where
  | vector | fixed
  deriving DecidableEq, Repr, Inhabited

/-- ILLEGAL_MODE (R9, R90): a mode for every unassigned opcode byte, as finite data: the usual mode, and
the opcode bytes that have another one. Every function on the 105 bytes can be written so. -/
structure IllegalModes where
  usual : Mode
  except : List (Byte × Mode)
  deriving DecidableEq, Repr, Inhabited

/-- The mode ILLEGAL_MODE gives an opcode byte. -/
def IllegalModes.modeOf (m : IllegalModes) (opcode : Byte) : Mode :=
  (m.except.lookup opcode).getD m.usual

/-- What stands behind an address: memory that keeps what is stored, memory that does not, or anything else the
environment may put there (20_memory.md R52: "RAM array, mapped I/O, ROM"; R54). -/
inductive Backing where
  | ram | rom | device
  deriving DecidableEq, Repr, Inhabited

/-- The addresses from `first` to `last` inclusive, with what stands behind them. -/
structure BusRegion where
  first : Word
  last : Word
  backing : Backing
  deriving DecidableEq, Repr, Inhabited

/-- BUS (R9, D23): the environment's answer to each `MemRead` and its reaction to each `MemWrite`, as plain data
(notes/assumptions/1.md). -/
structure Bus where
  /-- what stands behind an address that no region covers -/
  usual : Backing
  /-- the first region that covers an address says what stands behind it -/
  regions : List BusRegion
  /-- the answers to the reads of device addresses, in the order of the reads: any bytes, so that two reads of one
  address need not agree (20_memory.md R50), and what a store set off is in the answers after it (R51) -/
  answers : List Byte
  deriving DecidableEq, Repr, Inhabited

/-- Plain RAM over the whole address space: the environment of the spec's own tests (20_memory.md R52). -/
def Bus.plainRam : Bus where
  usual := .ram
  regions := []
  answers := []

/-- The open parameters of CORE (R9), fixed for the life of an instance (R271). -/
structure Config where
  /-- RESET_PC_SOURCE -/
  resetPcSource : ResetPcSource
  /-- START_ADDRESS -/
  startAddress : Word
  /-- BRK_PAD: `true` is 1, `false` is 0 -/
  brkPad : Bool
  /-- ILLEGAL_MODE -/
  illegalModes : IllegalModes
  /-- BUS -/
  bus : Bus
  deriving DecidableEq, Repr, Inhabited

/-- START_ADDRESS of the instance that State.reset stands for: a free value (notes/assumptions/5.md). -/
opaque freeStartAddress : Word

/-- BRK_PAD of the instance that State.reset stands for: a free value (notes/assumptions/3.md). -/
opaque freeBrkPad : Bool

/-- ILLEGAL_MODE of the instance that State.reset stands for: a free value (notes/assumptions/4.md). -/
opaque freeIllegalModes : IllegalModes

/-- The answer to the `n`th read of a device address, where BUS lists none: a free value (notes/assumptions/1.md). -/
opaque freeAnswer : Nat → Byte

end Sys2Proof
end

