-- ==== Sys2Proof/Machine/Memory.lean ====
section
/-! DEFINITION. The contents of the RAM and ROM behind the bus, over the whole 16-bit address space (20_memory.md
R52, R54), as a list of address and byte pairs in one canonical form. -/

namespace Sys2Proof.Machine

/-- The contents of the address space. An address that is not listed reads as `unlistedByte`. -/
abbrev Memory := List Host.Cell

/-- What a byte that nothing has written reads as. The spec gives memory no contents at reset
(70_reset_and_hazards.md R272, 93_implementation_defined.md U10); `0x00` is the convention of its own vectors
(95_test_vectors.md). DESIGN CHOICE, unsafe (notes/assumptions/2.md). -/
def unlistedByte : Byte := 0x00

/-- The byte held at an address. Total: every address holds one (R53). -/
def Memory.read (m : Memory) (a : Nat) : Byte :=
  match m with
  | [] => unlistedByte
  | c :: rest => if c.1 = a then c.2 else Memory.read rest a

/-- Lists `v` at `a`, in the place the rising order gives it. -/
def Memory.insert (m : Memory) (a : Nat) (v : Byte) : Memory :=
  match m with
  | [] => [(a, v)]
  | c :: rest =>
    if a < c.1 then (a, v) :: c :: rest
    else if a = c.1 then (a, v) :: rest
    else c :: Memory.insert rest a v

/-- The memory after `v` is stored at `a`: from then on `a` holds `v` (R52). Storing what an unlisted
address reads as removes the entry, so that equal memories are equal lists. -/
def Memory.write (m : Memory) (a : Nat) (v : Byte) : Memory :=
  if v = unlistedByte then m.filter (fun c => c.1 != a) else Memory.insert m a v

/-- The canonical form: addresses strictly rising and inside the address space (R54), and no entry equal to
what an unlisted address reads as. -/
abbrev Memory.wf (m : Memory) : Prop :=
  m.Pairwise (fun c d => c.1 < d.1) ∧ ∀ c ∈ m, c.1 < 65536 ∧ c.2 ≠ unlistedByte

end Sys2Proof.Machine
end

