-- ==== Sys2Proof/Machine/Bus.lean ====
section
/-! DEFINITION. What the environment answers to a read and does with a write, by the parameter BUS (20_memory.md R50 to
R53; notes/assumptions/1.md). CORE assumes nothing about it. -/

namespace Sys2Proof

open Machine

/-- The region covers the address. -/
def BusRegion.covers (r : BusRegion) (addr : Word) : Bool := decide (r.first ≤ addr) && decide (addr ≤ r.last)

/-- What stands behind an address: the first region that covers it says so. -/
def Bus.backingOf (b : Bus) (addr : Word) : Backing :=
  match b.regions.find? (·.covers addr) with
  | some r => r.backing
  | none => b.usual

/-- The byte a read of an address returns, when memory holds `m` and `n` device reads came before it (R50): what memory
holds, or the answer BUS lists for that device read, or a free value where it lists none. -/
def Bus.answer (b : Bus) (m : Memory) (n : Nat) (addr : Word) : Byte :=
  match b.backingOf addr with
  | .ram => m.read addr.toNat
  | .rom => m.read addr.toNat
  | .device => (b.answers[n]?).getD (freeAnswer n)

/-- The number of device reads after a read of an address, when `n` came before it. -/
def Bus.countRead (b : Bus) (n : Nat) (addr : Word) : Nat :=
  match b.backingOf addr with
  | .ram => n
  | .rom => n
  | .device => n + 1

/-- The number of device reads after reads of these addresses one after the other. -/
def Bus.countReads (b : Bus) (n : Nat) (addrs : List Word) : Nat := addrs.foldl b.countRead n

/-- The bytes reads of these addresses return, one after the other with no write between them. -/
def Bus.answersTo (b : Bus) (m : Memory) (n : Nat) (addrs : List Word) : List Byte :=
  match addrs with
  | [] => []
  | addr :: rest => b.answer m n addr :: b.answersTo m (b.countRead n addr) rest

/-- What memory holds after a write (R51): RAM keeps the byte; ROM and devices do not, and CORE never learns so. -/
def Bus.store (b : Bus) (m : Memory) (addr : Word) (v : Byte) : Memory :=
  match b.backingOf addr with
  | .ram => m.write addr.toNat v
  | .rom => m
  | .device => m

/-- The same BUS with RAM behind one address. -/
def Bus.withRamAt (b : Bus) (addr : Word) : Bus := { b with regions := ⟨addr, addr, .ram⟩ :: b.regions }

end Sys2Proof
end

