-- ==== Sys2Proof/Machine/Bytes.lean ====
section
/-! DEFINITION. Slices, concatenation and extension of bytes and words (00_scope.md R10, R11). -/

namespace Sys2Proof

/-- `{hi, lo}`: `hi` in the more significant position (R10). -/
def wordOf (hi lo : Byte) : Word := hi ++ lo

/-- `w[7:0]` (R10). -/
def loByte (w : Word) : Byte := w.setWidth 8

/-- `w[15:8]` (R10). -/
def hiByte (w : Word) : Byte := (w >>> 8).setWidth 8

/-- `zext_16(v)` (R11). -/
def zext16 (v : Byte) : Word := v.setWidth 16

/-- `zext_9(v)` (R11), the operand width of ADC and SBC. -/
def zext9 (v : Byte) : BitVec 9 := v.setWidth 9

/-- `sext_16(v)`: `v` read as two's complement (R11). -/
def sext16 (v : Byte) : Word := v.signExtend 16

end Sys2Proof
end

