-- ==== Sys2Proof/Machine/Instance.lean ====
section
/-! DEFINITION. The parameters of the instance that State.reset stands for. -/

namespace Sys2Proof

/-- The parameters in State.reset. BRK_PAD, ILLEGAL_MODE and START_ADDRESS are free values
(notes/assumptions/3.md, 4.md, 5.md); RESET_PC_SOURCE is `vector` and BUS plain RAM, DESIGN CHOICE
(notes/assumptions/5.md, 1.md).
Meanings read the field `config` of the state they run in, never this definition. -/
def Config.atReset : Config where
  resetPcSource := .vector
  startAddress := freeStartAddress
  brkPad := freeBrkPad
  illegalModes := freeIllegalModes
  bus := Bus.plainRam

end Sys2Proof
end

