-- ==== Sys2Proof/Machine/Boot.lean ====
section
/-! DEFINITION. Where a program starts: the reset vector and the value of PC after `reset`
(70_reset_and_hazards.md R270, R271). -/

namespace Sys2Proof.Machine

/-- The reset vector, at `0xFFFC` and `0xFFFD` (20_memory.md R61). -/
def resetVector : Word := 0xFFFC

/-- The bytes a read of the reset vector returns, low byte first (R271), after `n` device reads. -/
def resetVectorBytes (c : Config) (m : Memory) (n : Nat) : Byte × Byte :=
  (c.bus.answer m n resetVector, c.bus.answer m (c.bus.countRead n resetVector) (resetVector + 1))

/-- PC after `reset`: the little-endian word at the reset vector, or START_ADDRESS (R44, R271). -/
def resetPc (c : Config) (m : Memory) (n : Nat) : Word :=
  match c.resetPcSource with
  | .vector => wordOf (resetVectorBytes c m n).2 (resetVectorBytes c m n).1
  | .fixed => c.startAddress

/-- The number of device reads after `reset`, when `n` came before it. -/
def resetReads (c : Config) (n : Nat) : Nat :=
  match c.resetPcSource with
  | .vector => c.bus.countRead (c.bus.countRead n resetVector) (resetVector + 1)
  | .fixed => n

end Sys2Proof.Machine
end

