-- ==== Sys2Proof/Machine/State.lean ====
section
/-! DEFINITION. The state of CORE and its environment as plain data, the reasons a step can stop, and the state
right after reset (10_state.md). -/

namespace Sys2Proof.Machine

/-- The processor status P: eight one-bit flags (10_state.md R26). -/
structure Status where
  /-- negative, bit 7, R34 -/
  n : Bool
  /-- overflow, bit 6, R33 -/
  v : Bool
  /-- unused, bit 5, R32 -/
  u : Bool
  /-- break, bit 4, R31: the stored bit, which no instruction reads -/
  b : Bool
  /-- decimal, bit 3, R30: stored, with no effect on any operation -/
  d : Bool
  /-- IRQ-disable, bit 2, R29 -/
  i : Bool
  /-- zero, bit 1, R28 -/
  z : Bool
  /-- carry, bit 0, R27 -/
  c : Bool
  deriving DecidableEq, Repr

/-- The status after `reset`, packed `0x30` (R44). -/
def Status.boot : Status where
  n := false
  v := false
  u := true
  b := true
  d := false
  i := false
  z := false
  c := false

/-- One bus transaction: one byte at a 16-bit address (00_scope.md R6, 20_memory.md R50, R51). -/
inductive BusEvent where
  /-- `MemRead(addr, 1)` and the byte it returned -/
  | read (addr : Word) (value : Byte)
  /-- `MemWrite(addr, 1, value)` -/
  | write (addr : Word) (value : Byte)
  deriving DecidableEq, Repr

/-- The four transitions the environment can ask for (00_scope.md R6). -/
inductive Request where
  | step | reset | interrupt | nmi
  deriving DecidableEq, Repr

/-- CORE's register file (10_state.md R19 to R34), the memory and the parameters of its environment (00_scope.md
R9, 20_memory.md R52), and four fields of the model's own (notes/assumptions/1.md, 6.md to 8.md). -/
structure State where
  /-- accumulator, R20 -/
  a : Byte
  /-- index register X, R21 -/
  x : Byte
  /-- index register Y, R22 -/
  y : Byte
  /-- stack pointer, offset into `0x0100` to `0x01FF`, R23 -/
  sp : Byte
  /-- program counter, R24 -/
  pc : Word
  /-- processor status, R26 -/
  p : Status
  /-- what the RAM and ROM behind the bus hold, 20_memory.md R52 -/
  mem : Memory
  /-- the open parameters, 00_scope.md R9 -/
  config : Config
  /-- the model's own: how many reads devices have answered, which says which answer of BUS is next -/
  deviceReads : Nat
  /-- the model's own: the transitions the environment asks for next, oldest first; when there is none it asks
  for `step` -/
  requests : List Request
  /-- the model's own: the bus transactions of the transition last performed, in order, 00_scope.md R12 -/
  bus : List BusEvent
  /-- the model's own: whether the first `reset` has been invoked, 10_state.md R45 -/
  resetDone : Bool
  deriving DecidableEq, Repr

/-- The reasons a step faults: none. CORE raises no exception, and every byte is an opcode and every address can
be accessed (60_exceptions.md R240, 20_memory.md R53; notes/assumptions/12.md). -/
inductive Fault where
  deriving DecidableEq, Repr

/-- The reasons a step is refused. -/
inductive Refusal where
  /-- Raised by an arm of `exec` that gives its instruction no meaning yet; no arm does. Safe. -/
  | notModelled (mnemonic : String)
  /-- Raised by `step` when a transition other than `reset` is asked for before the first `reset`, which the spec
  calls out of contract and gives no successor state (10_state.md R45, 93_implementation_defined.md U1). Safe. -/
  | beforeReset
  deriving DecidableEq, Repr

/-- The machine right after `reset` (R44, 70_reset_and_hazards.md R270), with nothing listed in memory and
nothing asked for by the environment. The bus transactions are those of the `reset` transition. -/
def State.reset : State where
  a := 0x00
  x := 0x00
  y := 0x00
  sp := 0xFF
  pc := resetPc Config.atReset [] 0
  p := Status.boot
  mem := []
  config := Config.atReset
  deviceReads := resetReads Config.atReset 0
  requests := []
  bus := match Config.atReset.resetPcSource with
    | .vector => [.read resetVector (resetVectorBytes Config.atReset [] 0).1,
      .read (resetVector + 1) (resetVectorBytes Config.atReset [] 0).2]
    | .fixed => []
  resetDone := true

end Sys2Proof.Machine
end

