-- ==== Sys2Proof/Machine/Flags.lean ====
section
/-! DEFINITION. Every flag computation of the spec: SetZN, PackP, UnpackP, and the results with carry and
overflow of the arithmetic, compare and shift instructions. -/

namespace Sys2Proof.Machine

/-- `SetZN(v)` (10_state.md R36). -/
def Status.setZN (p : Status) (v : Byte) : Status := { p with z := v == 0, n := v.msb }

/-- The packed byte `{N, V, U, B, D, I, Z, C}` of eight bits (R26). -/
def packBits (n v u b d i z c : Bool) : Byte :=
  BitVec.ofBool n ++ BitVec.ofBool v ++ BitVec.ofBool u ++ BitVec.ofBool b ++
    BitVec.ofBool d ++ BitVec.ofBool i ++ BitVec.ofBool z ++ BitVec.ofBool c

/-- The eight stored flags as one byte (R26). No instruction materialises it: a push uses `packP`. -/
def Status.byte (p : Status) : Byte := packBits p.n p.v p.u p.b p.d p.i p.z p.c

/-- `PackP(b)`: the byte a push materialises, with bit 5 = 1 and bit 4 = `b` (R37). -/
def packP (b : Bool) (p : Status) : Byte := packBits p.n p.v true b p.d p.i p.z p.c

/-- `UnpackP(v)`: the flags of a pulled byte, with B forced 0 and U forced 1 (R38). -/
def unpackP (v : Byte) : Status where
  c := v.getLsbD 0
  z := v.getLsbD 1
  i := v.getLsbD 2
  d := v.getLsbD 3
  b := false
  u := true
  v := v.getLsbD 6
  n := v.getLsbD 7

/-- A byte result with the carry and overflow an addition gives it. -/
structure AddResult where
  value : Byte
  carry : Bool
  overflow : Bool
  deriving DecidableEq, Repr

/-- The 9-bit addition of ADC with its carry and overflow (43_logic_arith_compare.md R164). Binary whatever P.D
is (R171). -/
def addWithCarry (a m : Byte) (c : Bool) : AddResult :=
  let t : BitVec 9 := zext9 a + zext9 m + (BitVec.ofBool c).setWidth 9
  let r : Byte := t.setWidth 8
  { value := r
    carry := t.getLsbD 8
    overflow := ((a ^^^ r) &&& (m ^^^ r) &&& 0x80) != 0 }

/-- The addition of SBC: that of ADC with the operand's one's complement (R165). -/
def subWithCarry (a m : Byte) (c : Bool) : AddResult := addWithCarry a (m ^^^ 0xFF) c

/-- The flags of ADC and SBC: C and V of the addition, Z and N of its value (R164, R165). -/
def Status.ofAdd (p : Status) (r : AddResult) : Status :=
  { p with c := r.carry, v := r.overflow }.setZN r.value

/-- The flags of CMP, CPX and CPY: C is `r >= m` unsigned, Z and N are of `r - m` modulo 256 (R166 to R168). -/
def Status.compare (p : Status) (r m : Byte) : Status :=
  { p with c := decide (m ≤ r) }.setZN (r - m)

/-- The flags of BIT: Z of `A & M`, V and N from bits 6 and 7 of the operand (R163). -/
def Status.bitTest (p : Status) (a m : Byte) : Status :=
  { p with z := (a &&& m) == 0, v := m.getLsbD 6, n := m.getLsbD 7 }

/-- A byte result with the bit that leaves it into the carry. -/
structure ShiftResult where
  value : Byte
  carry : Bool
  deriving DecidableEq, Repr

/-- ASL (44_incdec_shift.md R186); the incoming carry is discarded. -/
def aslByte (_cin : Bool) (m : Byte) : ShiftResult := ⟨m <<< 1, m.getLsbD 7⟩

/-- LSR (R187); the incoming carry is discarded. -/
def lsrByte (_cin : Bool) (m : Byte) : ShiftResult := ⟨m >>> 1, m.getLsbD 0⟩

/-- ROL: the carry staged before it is overwritten enters at bit 0 (R188). -/
def rolByte (cin : Bool) (m : Byte) : ShiftResult :=
  ⟨(m <<< 1) ||| (BitVec.ofBool cin).setWidth 8, m.getLsbD 7⟩

/-- ROR: the carry staged before it is overwritten enters at bit 7 (R189). -/
def rorByte (cin : Bool) (m : Byte) : ShiftResult :=
  ⟨(m >>> 1) ||| ((BitVec.ofBool cin).setWidth 8 <<< 7), m.getLsbD 0⟩

/-- The flags of a shift or rotate: C is the bit that left, Z and N are of the value (R186 to R189). -/
def Status.ofShift (p : Status) (r : ShiftResult) : Status := { p with c := r.carry }.setZN r.value

end Sys2Proof.Machine
end

