-- ==== Sys2Proof/Machine/Ops.lean ====
section
/-! DEFINITION. The named operations every instruction and transition is made of: bus transactions, the stack,
the entry into and the return from an interrupt, and the transitions `reset`, `interrupt` and `nmi`. -/

namespace Sys2Proof.Machine

/-- What a meaning answers. -/
abbrev Outcome := Host.Outcome State Fault Refusal

def State.setA (s : State) (v : Byte) : State := { s with a := v }

def State.setX (s : State) (v : Byte) : State := { s with x := v }

def State.setY (s : State) (v : Byte) : State := { s with y := v }

def State.setSp (s : State) (v : Byte) : State := { s with sp := v }

def State.setPc (s : State) (v : Word) : State := { s with pc := v }

def State.setP (s : State) (v : Status) : State := { s with p := v }

/-- `SetZN(v)` on the state's status (10_state.md R36). -/
def State.setZN (s : State) (v : Byte) : State := s.setP (s.p.setZN v)

/-- The byte memory holds at an address, whatever stands behind it. It performs no bus transaction: meanings read
through `memRead`. -/
def State.byteAt (s : State) (addr : Word) : Byte := s.mem.read addr.toNat

/-- Stores a byte from outside the machine, with no bus transaction: how a loader places a program. -/
def State.poke (s : State) (addr : Word) (v : Byte) : State := { s with mem := s.mem.write addr.toNat v }

/-- The byte the environment answers to a read of an address that comes next (20_memory.md R50). -/
def State.answerAt (s : State) (addr : Word) : Byte := s.config.bus.answer s.mem s.deviceReads addr

/-- `MemRead(addr, 1)` (20_memory.md R50): the environment's answer, whatever it is. -/
def State.memRead (s : State) (addr : Word) : Byte × State :=
  (s.answerAt addr, { s with
    bus := s.bus ++ [.read addr (s.answerAt addr)]
    deviceReads := s.config.bus.countRead s.deviceReads addr })

/-- `MemWrite(addr, 1, v)` (R51): whether the byte is kept is the environment's. -/
def State.memWrite (s : State) (addr : Word) (v : Byte) : State :=
  { s with mem := s.config.bus.store s.mem addr v, bus := s.bus ++ [.write addr v] }

/-- The bytes the environment answers to the reads of these addresses, one after the other, that come next. -/
def State.answers (s : State) (addrs : List Word) : List Byte := s.config.bus.answersTo s.mem s.deviceReads addrs

/-- The state after reads of these addresses one after the other: the reads are recorded and counted. -/
def State.afterReads (s : State) (addrs : List Word) : State :=
  { s with
    bus := s.bus ++ List.zipWith BusEvent.read addrs (s.answers addrs)
    deviceReads := s.config.bus.countReads s.deviceReads addrs }

/-- `ReadWord(a_lo, a_hi)`: the byte at `a_lo` is read first (R55). -/
def State.readWord (s : State) (aLo aHi : Word) : Word × State :=
  let lo := s.memRead aLo
  let hi := lo.2.memRead aHi
  (wordOf hi.1 lo.1, hi.2)

/-- The stack address of a value of SP: `0x0100 + SP` (10_state.md R23). -/
def stackAddr (sp : Byte) : Word := 0x0100 + zext16 sp

/-- `Push(v)`: write at `0x0100 + SP`, then decrement SP (40_step_and_addressing.md R116). -/
def State.push (s : State) (v : Byte) : State := (s.memWrite (stackAddr s.sp) v).setSp (s.sp - 1)

/-- `Pull()`: increment SP, then read at `0x0100 + SP` (R117). -/
def State.pull (s : State) : Byte × State := (s.setSp (s.sp + 1)).memRead (stackAddr (s.sp + 1))

/-- A two-byte push: high byte first, then low byte (R118). -/
def State.pushWord (s : State) (w : Word) : State := (s.push (hiByte w)).push (loByte w)

/-- A two-byte pull: low byte first, then high byte (R118). -/
def State.pullWord (s : State) : Word × State :=
  let lo := s.pull
  let hi := lo.2.pull
  (wordOf hi.1 lo.1, hi.2)

/-- The NMI vector, at `0xFFFA` and `0xFFFB` (20_memory.md R61). -/
def nmiVector : Word := 0xFFFA

/-- The vector of IRQ and BRK, at `0xFFFE` and `0xFFFF` (R61). -/
def irqVector : Word := 0xFFFE

/-- The common entry sequence `Enter(ret, b, vec)` of BRK, `interrupt` and `nmi` (60_exceptions.md R242): PC and
the packed status go onto the stack, PC is loaded from the vector, and P.I is set. -/
def State.enter (s : State) (ret : Word) (b : Bool) (vec : Word) : State :=
  let pushed := (s.pushWord ret).push (packP b s.p)
  let target := pushed.readWord vec (vec + 1)
  (target.2.setPc target.1).setP { target.2.p with i := true }

/-- The return sequence of RTI: the status, then PC with no adjustment (46_flags_system.md R230, R249). -/
def State.leave (s : State) : State :=
  let status := s.pull
  let target := (status.2.setP (unpackP status.1)).pullWord
  target.2.setPc target.1

/-- The `interrupt` transition: nothing at all while P.I is set (R244). -/
def State.interrupt (s : State) : State := if s.p.i then s else s.enter s.pc false irqVector

/-- The `nmi` transition: never masked, through its own vector (R245). -/
def State.nmi (s : State) : State := s.enter s.pc false nmiVector

/-- The `reset` transition (70_reset_and_hazards.md R270): the whole register file is overwritten, memory is not
touched, and the reset vector is read in the `vector` configuration only. -/
def State.performReset (s : State) : State :=
  let start := match s.config.resetPcSource with
    | .vector => s.readWord resetVector (resetVector + 1)
    | .fixed => (s.config.startAddress, s)
  { start.2 with
    a := 0x00
    x := 0x00
    y := 0x00
    sp := 0xFF
    p := Status.boot
    pc := start.1
    resetDone := true }

/-- The transition the environment asks for next: `step` when nothing else is asked for (00_scope.md R6,
60_exceptions.md R247; notes/assumptions/6.md). -/
def State.nextRequest (s : State) : Request := s.requests.headD .step

/-- The state in which the transition asked for begins: its request is taken, and the record of bus transactions
is empty (00_scope.md R12; notes/assumptions/8.md). -/
def State.beginTransition (s : State) : State := { s with requests := s.requests.tail, bus := [] }

end Sys2Proof.Machine
end

