-- ==== Sys2Proof/Syntax.lean ====
section
/-! DEFINITION. The instructions of CORE as data: one constructor for each row of spec/opcode_table.json
(30_encoding.md R86 to R89), with the operand its bytes hold. -/

namespace Sys2Proof

/-- An operand in memory, by the mode that resolves it and the operand bytes that mode reads (R81, R104 to
R112). -/
inductive MemOperand where
  /-- zero-page, R104 -/
  | zeroPage (d8 : Byte)
  /-- zero-page,X, R105 -/
  | zeroPageX (d8 : Byte)
  /-- zero-page,Y, R106 -/
  | zeroPageY (d8 : Byte)
  /-- absolute, R107 -/
  | absolute (a16 : Word)
  /-- absolute,X, R108 -/
  | absoluteX (a16 : Word)
  /-- absolute,Y, R109 -/
  | absoluteY (a16 : Word)
  /-- indirect, R110 -/
  | indirect (a16 : Word)
  /-- (indirect,X), R111 -/
  | indirectX (d8 : Byte)
  /-- (indirect),Y, R112 -/
  | indirectY (d8 : Byte)
  deriving DecidableEq, Repr, Inhabited

/-- An operand of any mode: none (implied, R102; the accumulator forms of the shifts among them), the
instruction's own byte (immediate, R103; the branches among them, R113), or a memory operand. -/
inductive Operand where
  | implied
  | immediate (d8 : Byte)
  | memory (m : MemOperand)
  deriving DecidableEq, Repr, Inhabited

/-- The 56 operations and the no-op of the unassigned opcodes (R84, R229, 90_conflicts.md C9). -/
inductive Handler where
  | lda | ldx | ldy | sta | stx | sty | tax | tay | txa | tya
  | tsx | txs | pha | php | pla | plp | and | ora | eor | bit
  | adc | sbc | cmp | cpx | cpy | inc | dec | inx | dex | iny
  | dey | asl | lsr | rol | ror | jmp | jsr | rts | bcc | bcs
  | bne | beq | bpl | bmi | bvc | bvs | clc | cld | cli | clv
  | sec | sed | sei | brk | nop | rti
  | noOp
  deriving DecidableEq, Repr, Inhabited

/-- The instructions: the documented opcodes with an operand (R88; `d8` is the operand byte of format F2 and
`a16` the operand word of format F3, R81, R82), the 105 unassigned ones (R89), each of which carries the
operand that ILLEGAL_MODE of its opcode reads (R90), and the documented ones without an operand (F1). -/
inductive Instr where
  /-- `LDA #$nn`, opcode `A9`, R130 -/
  | ldaImm (d8 : Byte)
  /-- `LDA $nn`, opcode `A5`, R130 -/
  | ldaZp (d8 : Byte)
  /-- `LDA $nn,X`, opcode `B5`, R130 -/
  | ldaZpx (d8 : Byte)
  /-- `LDA $nnnn`, opcode `AD`, R130 -/
  | ldaAbs (a16 : Word)
  /-- `LDA $nnnn,X`, opcode `BD`, R130 -/
  | ldaAbx (a16 : Word)
  /-- `LDA $nnnn,Y`, opcode `B9`, R130 -/
  | ldaAby (a16 : Word)
  /-- `LDA ($nn,X)`, opcode `A1`, R130 -/
  | ldaIzx (d8 : Byte)
  /-- `LDA ($nn),Y`, opcode `B1`, R130 -/
  | ldaIzy (d8 : Byte)
  /-- `LDX #$nn`, opcode `A2`, R131 -/
  | ldxImm (d8 : Byte)
  /-- `LDX $nn`, opcode `A6`, R131 -/
  | ldxZp (d8 : Byte)
  /-- `LDX $nn,Y`, opcode `B6`, R131 -/
  | ldxZpy (d8 : Byte)
  /-- `LDX $nnnn`, opcode `AE`, R131 -/
  | ldxAbs (a16 : Word)
  /-- `LDX $nnnn,Y`, opcode `BE`, R131 -/
  | ldxAby (a16 : Word)
  /-- `LDY #$nn`, opcode `A0`, R132 -/
  | ldyImm (d8 : Byte)
  /-- `LDY $nn`, opcode `A4`, R132 -/
  | ldyZp (d8 : Byte)
  /-- `LDY $nn,X`, opcode `B4`, R132 -/
  | ldyZpx (d8 : Byte)
  /-- `LDY $nnnn`, opcode `AC`, R132 -/
  | ldyAbs (a16 : Word)
  /-- `LDY $nnnn,X`, opcode `BC`, R132 -/
  | ldyAbx (a16 : Word)
  /-- `STA $nn`, opcode `85`, R133 -/
  | staZp (d8 : Byte)
  /-- `STA $nn,X`, opcode `95`, R133 -/
  | staZpx (d8 : Byte)
  /-- `STA $nnnn`, opcode `8D`, R133 -/
  | staAbs (a16 : Word)
  /-- `STA $nnnn,X`, opcode `9D`, R133 -/
  | staAbx (a16 : Word)
  /-- `STA $nnnn,Y`, opcode `99`, R133 -/
  | staAby (a16 : Word)
  /-- `STA ($nn,X)`, opcode `81`, R133 -/
  | staIzx (d8 : Byte)
  /-- `STA ($nn),Y`, opcode `91`, R133 -/
  | staIzy (d8 : Byte)
  /-- `STX $nn`, opcode `86`, R134 -/
  | stxZp (d8 : Byte)
  /-- `STX $nn,Y`, opcode `96`, R134 -/
  | stxZpy (d8 : Byte)
  /-- `STX $nnnn`, opcode `8E`, R134 -/
  | stxAbs (a16 : Word)
  /-- `STY $nn`, opcode `84`, R135 -/
  | styZp (d8 : Byte)
  /-- `STY $nn,X`, opcode `94`, R135 -/
  | styZpx (d8 : Byte)
  /-- `STY $nnnn`, opcode `8C`, R135 -/
  | styAbs (a16 : Word)
  /-- `AND #$nn`, opcode `29`, R160 -/
  | andImm (d8 : Byte)
  /-- `AND $nn`, opcode `25`, R160 -/
  | andZp (d8 : Byte)
  /-- `AND $nn,X`, opcode `35`, R160 -/
  | andZpx (d8 : Byte)
  /-- `AND $nnnn`, opcode `2D`, R160 -/
  | andAbs (a16 : Word)
  /-- `AND $nnnn,X`, opcode `3D`, R160 -/
  | andAbx (a16 : Word)
  /-- `AND $nnnn,Y`, opcode `39`, R160 -/
  | andAby (a16 : Word)
  /-- `AND ($nn,X)`, opcode `21`, R160 -/
  | andIzx (d8 : Byte)
  /-- `AND ($nn),Y`, opcode `31`, R160 -/
  | andIzy (d8 : Byte)
  /-- `ORA #$nn`, opcode `09`, R161 -/
  | oraImm (d8 : Byte)
  /-- `ORA $nn`, opcode `05`, R161 -/
  | oraZp (d8 : Byte)
  /-- `ORA $nn,X`, opcode `15`, R161 -/
  | oraZpx (d8 : Byte)
  /-- `ORA $nnnn`, opcode `0D`, R161 -/
  | oraAbs (a16 : Word)
  /-- `ORA $nnnn,X`, opcode `1D`, R161 -/
  | oraAbx (a16 : Word)
  /-- `ORA $nnnn,Y`, opcode `19`, R161 -/
  | oraAby (a16 : Word)
  /-- `ORA ($nn,X)`, opcode `01`, R161 -/
  | oraIzx (d8 : Byte)
  /-- `ORA ($nn),Y`, opcode `11`, R161 -/
  | oraIzy (d8 : Byte)
  /-- `EOR #$nn`, opcode `49`, R162 -/
  | eorImm (d8 : Byte)
  /-- `EOR $nn`, opcode `45`, R162 -/
  | eorZp (d8 : Byte)
  /-- `EOR $nn,X`, opcode `55`, R162 -/
  | eorZpx (d8 : Byte)
  /-- `EOR $nnnn`, opcode `4D`, R162 -/
  | eorAbs (a16 : Word)
  /-- `EOR $nnnn,X`, opcode `5D`, R162 -/
  | eorAbx (a16 : Word)
  /-- `EOR $nnnn,Y`, opcode `59`, R162 -/
  | eorAby (a16 : Word)
  /-- `EOR ($nn,X)`, opcode `41`, R162 -/
  | eorIzx (d8 : Byte)
  /-- `EOR ($nn),Y`, opcode `51`, R162 -/
  | eorIzy (d8 : Byte)
  /-- `BIT $nn`, opcode `24`, R163 -/
  | bitZp (d8 : Byte)
  /-- `BIT $nnnn`, opcode `2C`, R163 -/
  | bitAbs (a16 : Word)
  /-- `ADC #$nn`, opcode `69`, R164 -/
  | adcImm (d8 : Byte)
  /-- `ADC $nn`, opcode `65`, R164 -/
  | adcZp (d8 : Byte)
  /-- `ADC $nn,X`, opcode `75`, R164 -/
  | adcZpx (d8 : Byte)
  /-- `ADC $nnnn`, opcode `6D`, R164 -/
  | adcAbs (a16 : Word)
  /-- `ADC $nnnn,X`, opcode `7D`, R164 -/
  | adcAbx (a16 : Word)
  /-- `ADC $nnnn,Y`, opcode `79`, R164 -/
  | adcAby (a16 : Word)
  /-- `ADC ($nn,X)`, opcode `61`, R164 -/
  | adcIzx (d8 : Byte)
  /-- `ADC ($nn),Y`, opcode `71`, R164 -/
  | adcIzy (d8 : Byte)
  /-- `SBC #$nn`, opcode `E9`, R165 -/
  | sbcImm (d8 : Byte)
  /-- `SBC $nn`, opcode `E5`, R165 -/
  | sbcZp (d8 : Byte)
  /-- `SBC $nn,X`, opcode `F5`, R165 -/
  | sbcZpx (d8 : Byte)
  /-- `SBC $nnnn`, opcode `ED`, R165 -/
  | sbcAbs (a16 : Word)
  /-- `SBC $nnnn,X`, opcode `FD`, R165 -/
  | sbcAbx (a16 : Word)
  /-- `SBC $nnnn,Y`, opcode `F9`, R165 -/
  | sbcAby (a16 : Word)
  /-- `SBC ($nn,X)`, opcode `E1`, R165 -/
  | sbcIzx (d8 : Byte)
  /-- `SBC ($nn),Y`, opcode `F1`, R165 -/
  | sbcIzy (d8 : Byte)
  /-- `CMP #$nn`, opcode `C9`, R166 -/
  | cmpImm (d8 : Byte)
  /-- `CMP $nn`, opcode `C5`, R166 -/
  | cmpZp (d8 : Byte)
  /-- `CMP $nn,X`, opcode `D5`, R166 -/
  | cmpZpx (d8 : Byte)
  /-- `CMP $nnnn`, opcode `CD`, R166 -/
  | cmpAbs (a16 : Word)
  /-- `CMP $nnnn,X`, opcode `DD`, R166 -/
  | cmpAbx (a16 : Word)
  /-- `CMP $nnnn,Y`, opcode `D9`, R166 -/
  | cmpAby (a16 : Word)
  /-- `CMP ($nn,X)`, opcode `C1`, R166 -/
  | cmpIzx (d8 : Byte)
  /-- `CMP ($nn),Y`, opcode `D1`, R166 -/
  | cmpIzy (d8 : Byte)
  /-- `CPX #$nn`, opcode `E0`, R167 -/
  | cpxImm (d8 : Byte)
  /-- `CPX $nn`, opcode `E4`, R167 -/
  | cpxZp (d8 : Byte)
  /-- `CPX $nnnn`, opcode `EC`, R167 -/
  | cpxAbs (a16 : Word)
  /-- `CPY #$nn`, opcode `C0`, R168 -/
  | cpyImm (d8 : Byte)
  /-- `CPY $nn`, opcode `C4`, R168 -/
  | cpyZp (d8 : Byte)
  /-- `CPY $nnnn`, opcode `CC`, R168 -/
  | cpyAbs (a16 : Word)
  /-- `INC $nn`, opcode `E6`, R180 -/
  | incZp (d8 : Byte)
  /-- `INC $nn,X`, opcode `F6`, R180 -/
  | incZpx (d8 : Byte)
  /-- `INC $nnnn`, opcode `EE`, R180 -/
  | incAbs (a16 : Word)
  /-- `INC $nnnn,X`, opcode `FE`, R180 -/
  | incAbx (a16 : Word)
  /-- `DEC $nn`, opcode `C6`, R181 -/
  | decZp (d8 : Byte)
  /-- `DEC $nn,X`, opcode `D6`, R181 -/
  | decZpx (d8 : Byte)
  /-- `DEC $nnnn`, opcode `CE`, R181 -/
  | decAbs (a16 : Word)
  /-- `DEC $nnnn,X`, opcode `DE`, R181 -/
  | decAbx (a16 : Word)
  /-- `ASL $nn`, opcode `06`, R186 -/
  | aslZp (d8 : Byte)
  /-- `ASL $nn,X`, opcode `16`, R186 -/
  | aslZpx (d8 : Byte)
  /-- `ASL $nnnn`, opcode `0E`, R186 -/
  | aslAbs (a16 : Word)
  /-- `ASL $nnnn,X`, opcode `1E`, R186 -/
  | aslAbx (a16 : Word)
  /-- `LSR $nn`, opcode `46`, R187 -/
  | lsrZp (d8 : Byte)
  /-- `LSR $nn,X`, opcode `56`, R187 -/
  | lsrZpx (d8 : Byte)
  /-- `LSR $nnnn`, opcode `4E`, R187 -/
  | lsrAbs (a16 : Word)
  /-- `LSR $nnnn,X`, opcode `5E`, R187 -/
  | lsrAbx (a16 : Word)
  /-- `ROL $nn`, opcode `26`, R188 -/
  | rolZp (d8 : Byte)
  /-- `ROL $nn,X`, opcode `36`, R188 -/
  | rolZpx (d8 : Byte)
  /-- `ROL $nnnn`, opcode `2E`, R188 -/
  | rolAbs (a16 : Word)
  /-- `ROL $nnnn,X`, opcode `3E`, R188 -/
  | rolAbx (a16 : Word)
  /-- `ROR $nn`, opcode `66`, R189 -/
  | rorZp (d8 : Byte)
  /-- `ROR $nn,X`, opcode `76`, R189 -/
  | rorZpx (d8 : Byte)
  /-- `ROR $nnnn`, opcode `6E`, R189 -/
  | rorAbs (a16 : Word)
  /-- `ROR $nnnn,X`, opcode `7E`, R189 -/
  | rorAbx (a16 : Word)
  /-- `JMP $nnnn`, opcode `4C`, R200 -/
  | jmpAbs (a16 : Word)
  /-- `JMP ($nnnn)`, opcode `6C`, R200 -/
  | jmpInd (a16 : Word)
  /-- `JSR $nnnn`, opcode `20`, R203 -/
  | jsr (a16 : Word)
  /-- `BCC $nnnn`, opcode `90`, R206 -/
  | bcc (d8 : Byte)
  /-- `BCS $nnnn`, opcode `B0`, R207 -/
  | bcs (d8 : Byte)
  /-- `BNE $nnnn`, opcode `D0`, R208 -/
  | bne (d8 : Byte)
  /-- `BEQ $nnnn`, opcode `F0`, R209 -/
  | beq (d8 : Byte)
  /-- `BPL $nnnn`, opcode `10`, R210 -/
  | bpl (d8 : Byte)
  /-- `BMI $nnnn`, opcode `30`, R211 -/
  | bmi (d8 : Byte)
  /-- `BVC $nnnn`, opcode `50`, R212 -/
  | bvc (d8 : Byte)
  /-- `BVS $nnnn`, opcode `70`, R213 -/
  | bvs (d8 : Byte)
  /-- unassigned opcode `02`, R231 -/
  | ill02 (o : Operand)
  /-- unassigned opcode `03`, R231 -/
  | ill03 (o : Operand)
  /-- unassigned opcode `04`, R231 -/
  | ill04 (o : Operand)
  /-- unassigned opcode `07`, R231 -/
  | ill07 (o : Operand)
  /-- unassigned opcode `0B`, R231 -/
  | ill0B (o : Operand)
  /-- unassigned opcode `0C`, R231 -/
  | ill0C (o : Operand)
  /-- unassigned opcode `0F`, R231 -/
  | ill0F (o : Operand)
  /-- unassigned opcode `12`, R231 -/
  | ill12 (o : Operand)
  /-- unassigned opcode `13`, R231 -/
  | ill13 (o : Operand)
  /-- unassigned opcode `14`, R231 -/
  | ill14 (o : Operand)
  /-- unassigned opcode `17`, R231 -/
  | ill17 (o : Operand)
  /-- unassigned opcode `1A`, R231 -/
  | ill1A (o : Operand)
  /-- unassigned opcode `1B`, R231 -/
  | ill1B (o : Operand)
  /-- unassigned opcode `1C`, R231 -/
  | ill1C (o : Operand)
  /-- unassigned opcode `1F`, R231 -/
  | ill1F (o : Operand)
  /-- unassigned opcode `22`, R231 -/
  | ill22 (o : Operand)
  /-- unassigned opcode `23`, R231 -/
  | ill23 (o : Operand)
  /-- unassigned opcode `27`, R231 -/
  | ill27 (o : Operand)
  /-- unassigned opcode `2B`, R231 -/
  | ill2B (o : Operand)
  /-- unassigned opcode `2F`, R231 -/
  | ill2F (o : Operand)
  /-- unassigned opcode `32`, R231 -/
  | ill32 (o : Operand)
  /-- unassigned opcode `33`, R231 -/
  | ill33 (o : Operand)
  /-- unassigned opcode `34`, R231 -/
  | ill34 (o : Operand)
  /-- unassigned opcode `37`, R231 -/
  | ill37 (o : Operand)
  /-- unassigned opcode `3A`, R231 -/
  | ill3A (o : Operand)
  /-- unassigned opcode `3B`, R231 -/
  | ill3B (o : Operand)
  /-- unassigned opcode `3C`, R231 -/
  | ill3C (o : Operand)
  /-- unassigned opcode `3F`, R231 -/
  | ill3F (o : Operand)
  /-- unassigned opcode `42`, R231 -/
  | ill42 (o : Operand)
  /-- unassigned opcode `43`, R231 -/
  | ill43 (o : Operand)
  /-- unassigned opcode `44`, R231 -/
  | ill44 (o : Operand)
  /-- unassigned opcode `47`, R231 -/
  | ill47 (o : Operand)
  /-- unassigned opcode `4B`, R231 -/
  | ill4B (o : Operand)
  /-- unassigned opcode `4F`, R231 -/
  | ill4F (o : Operand)
  /-- unassigned opcode `52`, R231 -/
  | ill52 (o : Operand)
  /-- unassigned opcode `53`, R231 -/
  | ill53 (o : Operand)
  /-- unassigned opcode `54`, R231 -/
  | ill54 (o : Operand)
  /-- unassigned opcode `57`, R231 -/
  | ill57 (o : Operand)
  /-- unassigned opcode `5A`, R231 -/
  | ill5A (o : Operand)
  /-- unassigned opcode `5B`, R231 -/
  | ill5B (o : Operand)
  /-- unassigned opcode `5C`, R231 -/
  | ill5C (o : Operand)
  /-- unassigned opcode `5F`, R231 -/
  | ill5F (o : Operand)
  /-- unassigned opcode `62`, R231 -/
  | ill62 (o : Operand)
  /-- unassigned opcode `63`, R231 -/
  | ill63 (o : Operand)
  /-- unassigned opcode `64`, R231 -/
  | ill64 (o : Operand)
  /-- unassigned opcode `67`, R231 -/
  | ill67 (o : Operand)
  /-- unassigned opcode `6B`, R231 -/
  | ill6B (o : Operand)
  /-- unassigned opcode `6F`, R231 -/
  | ill6F (o : Operand)
  /-- unassigned opcode `72`, R231 -/
  | ill72 (o : Operand)
  /-- unassigned opcode `73`, R231 -/
  | ill73 (o : Operand)
  /-- unassigned opcode `74`, R231 -/
  | ill74 (o : Operand)
  /-- unassigned opcode `77`, R231 -/
  | ill77 (o : Operand)
  /-- unassigned opcode `7A`, R231 -/
  | ill7A (o : Operand)
  /-- unassigned opcode `7B`, R231 -/
  | ill7B (o : Operand)
  /-- unassigned opcode `7C`, R231 -/
  | ill7C (o : Operand)
  /-- unassigned opcode `7F`, R231 -/
  | ill7F (o : Operand)
  /-- unassigned opcode `80`, R231 -/
  | ill80 (o : Operand)
  /-- unassigned opcode `82`, R231 -/
  | ill82 (o : Operand)
  /-- unassigned opcode `83`, R231 -/
  | ill83 (o : Operand)
  /-- unassigned opcode `87`, R231 -/
  | ill87 (o : Operand)
  /-- unassigned opcode `89`, R231 -/
  | ill89 (o : Operand)
  /-- unassigned opcode `8B`, R231 -/
  | ill8B (o : Operand)
  /-- unassigned opcode `8F`, R231 -/
  | ill8F (o : Operand)
  /-- unassigned opcode `92`, R231 -/
  | ill92 (o : Operand)
  /-- unassigned opcode `93`, R231 -/
  | ill93 (o : Operand)
  /-- unassigned opcode `97`, R231 -/
  | ill97 (o : Operand)
  /-- unassigned opcode `9B`, R231 -/
  | ill9B (o : Operand)
  /-- unassigned opcode `9C`, R231 -/
  | ill9C (o : Operand)
  /-- unassigned opcode `9E`, R231 -/
  | ill9E (o : Operand)
  /-- unassigned opcode `9F`, R231 -/
  | ill9F (o : Operand)
  /-- unassigned opcode `A3`, R231 -/
  | illA3 (o : Operand)
  /-- unassigned opcode `A7`, R231 -/
  | illA7 (o : Operand)
  /-- unassigned opcode `AB`, R231 -/
  | illAB (o : Operand)
  /-- unassigned opcode `AF`, R231 -/
  | illAF (o : Operand)
  /-- unassigned opcode `B2`, R231 -/
  | illB2 (o : Operand)
  /-- unassigned opcode `B3`, R231 -/
  | illB3 (o : Operand)
  /-- unassigned opcode `B7`, R231 -/
  | illB7 (o : Operand)
  /-- unassigned opcode `BB`, R231 -/
  | illBB (o : Operand)
  /-- unassigned opcode `BF`, R231 -/
  | illBF (o : Operand)
  /-- unassigned opcode `C2`, R231 -/
  | illC2 (o : Operand)
  /-- unassigned opcode `C3`, R231 -/
  | illC3 (o : Operand)
  /-- unassigned opcode `C7`, R231 -/
  | illC7 (o : Operand)
  /-- unassigned opcode `CB`, R231 -/
  | illCB (o : Operand)
  /-- unassigned opcode `CF`, R231 -/
  | illCF (o : Operand)
  /-- unassigned opcode `D2`, R231 -/
  | illD2 (o : Operand)
  /-- unassigned opcode `D3`, R231 -/
  | illD3 (o : Operand)
  /-- unassigned opcode `D4`, R231 -/
  | illD4 (o : Operand)
  /-- unassigned opcode `D7`, R231 -/
  | illD7 (o : Operand)
  /-- unassigned opcode `DA`, R231 -/
  | illDA (o : Operand)
  /-- unassigned opcode `DB`, R231 -/
  | illDB (o : Operand)
  /-- unassigned opcode `DC`, R231 -/
  | illDC (o : Operand)
  /-- unassigned opcode `DF`, R231 -/
  | illDF (o : Operand)
  /-- unassigned opcode `E2`, R231 -/
  | illE2 (o : Operand)
  /-- unassigned opcode `E3`, R231 -/
  | illE3 (o : Operand)
  /-- unassigned opcode `E7`, R231 -/
  | illE7 (o : Operand)
  /-- unassigned opcode `EB`, R231 -/
  | illEB (o : Operand)
  /-- unassigned opcode `EF`, R231 -/
  | illEF (o : Operand)
  /-- unassigned opcode `F2`, R231 -/
  | illF2 (o : Operand)
  /-- unassigned opcode `F3`, R231 -/
  | illF3 (o : Operand)
  /-- unassigned opcode `F4`, R231 -/
  | illF4 (o : Operand)
  /-- unassigned opcode `F7`, R231 -/
  | illF7 (o : Operand)
  /-- unassigned opcode `FA`, R231 -/
  | illFA (o : Operand)
  /-- unassigned opcode `FB`, R231 -/
  | illFB (o : Operand)
  /-- unassigned opcode `FC`, R231 -/
  | illFC (o : Operand)
  /-- unassigned opcode `FF`, R231 -/
  | illFF (o : Operand)
  /-- `TAX`, opcode `AA`, R136 -/
  | tax
  /-- `TAY`, opcode `A8`, R137 -/
  | tay
  /-- `TXA`, opcode `8A`, R138 -/
  | txa
  /-- `TYA`, opcode `98`, R139 -/
  | tya
  /-- `TSX`, opcode `BA`, R140 -/
  | tsx
  /-- `TXS`, opcode `9A`, R141 -/
  | txs
  /-- `PHA`, opcode `48`, R150 -/
  | pha
  /-- `PHP`, opcode `08`, R151 -/
  | php
  /-- `PLA`, opcode `68`, R152 -/
  | pla
  /-- `PLP`, opcode `28`, R153 -/
  | plp
  /-- `INX`, opcode `E8`, R182 -/
  | inx
  /-- `DEX`, opcode `CA`, R183 -/
  | dex
  /-- `INY`, opcode `C8`, R184 -/
  | iny
  /-- `DEY`, opcode `88`, R185 -/
  | dey
  /-- `ASL A`, opcode `0A`, R186 -/
  | aslA
  /-- `LSR A`, opcode `4A`, R187 -/
  | lsrA
  /-- `ROL A`, opcode `2A`, R188 -/
  | rolA
  /-- `ROR A`, opcode `6A`, R189 -/
  | rorA
  /-- `RTS`, opcode `60`, R204 -/
  | rts
  /-- `CLC`, opcode `18`, R220 -/
  | clc
  /-- `CLD`, opcode `D8`, R221 -/
  | cld
  /-- `CLI`, opcode `58`, R222 -/
  | cli
  /-- `CLV`, opcode `B8`, R223 -/
  | clv
  /-- `SEC`, opcode `38`, R224 -/
  | sec
  /-- `SED`, opcode `F8`, R225 -/
  | sed
  /-- `SEI`, opcode `78`, R226 -/
  | sei
  /-- `BRK`, opcode `00`, R227 -/
  | brk
  /-- `NOP`, opcode `EA`, R228 -/
  | nop
  /-- `RTI`, opcode `40`, R230 -/
  | rti
  deriving DecidableEq, Repr, Inhabited

end Sys2Proof
end

