-- ==== Sys2Proof/Machine/Operands.lean ====
section
/-! DEFINITION. The addressing-mode resolvers, the operand fetch and the write-back
(40_step_and_addressing.md R101 to R115). The operand bytes themselves are already in the instruction: `fetch`
has read them and has advanced PC past them (notes/assumptions/11.md). -/

namespace Sys2Proof.Machine

/-- The address of the high byte of a JMP (indirect) pointer: the next one in the same page (R110). -/
def samePageNext (w : Word) : Word := wordOf (hiByte w) (loByte w + 1)

/-- The resolver of a memory operand: the effective address, and the state after the reads of the pointer bytes
(R104 to R112). A zero-page sum and a zero-page pointer stay in page 0. -/
def State.resolve (s : State) (m : MemOperand) : Word × State :=
  match m with
  | .zeroPage d8 => (zext16 d8, s)
  | .zeroPageX d8 => (zext16 (d8 + s.x), s)
  | .zeroPageY d8 => (zext16 (d8 + s.y), s)
  | .absolute a16 => (a16, s)
  | .absoluteX a16 => (a16 + zext16 s.x, s)
  | .absoluteY a16 => (a16 + zext16 s.y, s)
  | .indirect a16 => s.readWord a16 (samePageNext a16)
  | .indirectX d8 => s.readWord (zext16 (d8 + s.x)) (zext16 (d8 + s.x + 1))
  | .indirectY d8 =>
    let pointer := s.readWord (zext16 d8) (zext16 (d8 + 1))
    (pointer.1 + zext16 s.y, pointer.2)

/-- The effective address of a memory operand in a state. -/
def State.effectiveAddress (s : State) (m : MemOperand) : Word := (s.resolve m).1

/-- The operand `M` of an instruction that reads one: A when implied (R102), the instruction's byte when immediate
(R103), otherwise the byte read at the effective address (R114). -/
def State.fetchOperand (s : State) (o : Operand) : Byte × State :=
  match o with
  | .implied => (s.a, s)
  | .immediate d8 => (d8, s)
  | .memory m =>
    let ea := s.resolve m
    ea.2.memRead ea.1

/-- The operand `M` of an instruction in a state. -/
def State.operandValue (s : State) (o : Operand) : Byte := (s.fetchOperand o).1

/-- The resolver alone, with no operand fetch: what an unassigned opcode performs (46_flags_system.md R231). -/
def State.resolveOnly (s : State) (o : Operand) : State :=
  match o with
  | .implied => s
  | .immediate _ => s
  | .memory m => (s.resolve m).2

/-- The operand of ASL, LSR, ROL and ROR: the accumulator or a memory operand (R115). -/
inductive ShiftOperand where
  | accumulator
  | memory (m : MemOperand)
  deriving DecidableEq, Repr

/-- The two-entry write-target table of the shifts: the accumulator, or memory at the effective address (R115). -/
inductive WriteTarget where
  | accumulator
  | memory (ea : Word)
  deriving DecidableEq, Repr

/-- Where the result of a shift goes, the operand `M`, and the state after its reads (R102, R114, R115). -/
def State.stageShift (s : State) (o : ShiftOperand) : WriteTarget × Byte × State :=
  match o with
  | .accumulator => (.accumulator, s.a, s)
  | .memory m =>
    let ea := s.resolve m
    let operand := ea.2.memRead ea.1
    (.memory ea.1, operand.1, operand.2)

/-- `WriteBack(r)` (R115). -/
def State.writeBack (s : State) (t : WriteTarget) (r : Byte) : State :=
  match t with
  | .accumulator => s.setA r
  | .memory ea => s.memWrite ea r

end Sys2Proof.Machine
end

