-- ==== Sys2Proof/Machine/Control.lean ====
section
/-! DEFINITION. Jumps, call and return, and the branches (45_control_transfer.md). -/

namespace Sys2Proof.Machine

/-- JMP: `PC <- EA`; the byte at the target is not read (R200). -/
def State.jump (s : State) (m : MemOperand) : State :=
  let ea := s.resolve m
  ea.2.setPc ea.1

/-- JSR: the address of its own last byte is pushed, high byte first, and `PC <- EA` (R203). -/
def State.jsr (s : State) (m : MemOperand) : State :=
  let ea := s.resolve m
  (ea.2.pushWord (ea.2.pc - 1)).setPc ea.1

/-- RTS: the pulled word plus 1 (R204). -/
def State.rts (s : State) : State :=
  let target := s.pullWord
  target.2.setPc (target.1 + 1)

/-- The common branch rule: PC, which is the address after the operand, moves by the signed displacement when the
condition holds (R205). -/
def State.branch (s : State) (cond : Bool) (d8 : Byte) : State :=
  if cond then s.setPc (s.pc + sext16 d8) else s

/-- `JMP $nnnn` (R200). -/
def execJmpAbs (a16 : Word) (s : State) : Outcome := .next (s.jump (.absolute a16))

/-- `JMP ($nnnn)` (R200). -/
def execJmpInd (a16 : Word) (s : State) : Outcome := .next (s.jump (.indirect a16))

/-- `JSR $nnnn` (R203). -/
def execJsr (a16 : Word) (s : State) : Outcome := .next (s.jsr (.absolute a16))

/-- `RTS` (R204). -/
def execRts (s : State) : Outcome := .next (s.rts)

/-- `BCC $nnnn` (R206). -/
def execBcc (d8 : Byte) (s : State) : Outcome := .next (s.branch (!s.p.c) d8)

/-- `BCS $nnnn` (R207). -/
def execBcs (d8 : Byte) (s : State) : Outcome := .next (s.branch s.p.c d8)

/-- `BNE $nnnn` (R208). -/
def execBne (d8 : Byte) (s : State) : Outcome := .next (s.branch (!s.p.z) d8)

/-- `BEQ $nnnn` (R209). -/
def execBeq (d8 : Byte) (s : State) : Outcome := .next (s.branch s.p.z d8)

/-- `BPL $nnnn` (R210). -/
def execBpl (d8 : Byte) (s : State) : Outcome := .next (s.branch (!s.p.n) d8)

/-- `BMI $nnnn` (R211). -/
def execBmi (d8 : Byte) (s : State) : Outcome := .next (s.branch s.p.n d8)

/-- `BVC $nnnn` (R212). -/
def execBvc (d8 : Byte) (s : State) : Outcome := .next (s.branch (!s.p.v) d8)

/-- `BVS $nnnn` (R213). -/
def execBvs (d8 : Byte) (s : State) : Outcome := .next (s.branch s.p.v d8)

end Sys2Proof.Machine
end

