-- ==== Sys2Proof/Machine/IncDec.lean ====
section
/-! DEFINITION. Increment and decrement (44_incdec_shift.md). -/

namespace Sys2Proof.Machine

/-- INC and DEC: one read of `EA`, one write of `f M` to it, and `SetZN` (R180, R181). -/
def State.modify (s : State) (f : Byte → Byte) (m : MemOperand) : State :=
  let ea := s.resolve m
  let v := ea.2.memRead ea.1
  (v.2.memWrite ea.1 (f v.1)).setZN (f v.1)

/-- `INC $nn` (R180). -/
def execIncZp (d8 : Byte) (s : State) : Outcome := .next (s.modify (· + 1) (.zeroPage d8))

/-- `INC $nn,X` (R180). -/
def execIncZpx (d8 : Byte) (s : State) : Outcome := .next (s.modify (· + 1) (.zeroPageX d8))

/-- `INC $nnnn` (R180). -/
def execIncAbs (a16 : Word) (s : State) : Outcome := .next (s.modify (· + 1) (.absolute a16))

/-- `INC $nnnn,X` (R180). -/
def execIncAbx (a16 : Word) (s : State) : Outcome := .next (s.modify (· + 1) (.absoluteX a16))

/-- `DEC $nn` (R181). -/
def execDecZp (d8 : Byte) (s : State) : Outcome := .next (s.modify (· - 1) (.zeroPage d8))

/-- `DEC $nn,X` (R181). -/
def execDecZpx (d8 : Byte) (s : State) : Outcome := .next (s.modify (· - 1) (.zeroPageX d8))

/-- `DEC $nnnn` (R181). -/
def execDecAbs (a16 : Word) (s : State) : Outcome := .next (s.modify (· - 1) (.absolute a16))

/-- `DEC $nnnn,X` (R181). -/
def execDecAbx (a16 : Word) (s : State) : Outcome := .next (s.modify (· - 1) (.absoluteX a16))

/-- `INX` (R182). -/
def execInx (s : State) : Outcome := .next ((s.setX (s.x + 1)).setZN (s.x + 1))

/-- `DEX` (R183). -/
def execDex (s : State) : Outcome := .next ((s.setX (s.x - 1)).setZN (s.x - 1))

/-- `INY` (R184). -/
def execIny (s : State) : Outcome := .next ((s.setY (s.y + 1)).setZN (s.y + 1))

/-- `DEY` (R185). -/
def execDey (s : State) : Outcome := .next ((s.setY (s.y - 1)).setZN (s.y - 1))

end Sys2Proof.Machine
end

