-- ==== Sys2Proof/Machine/LoadStore.lean ====
section
/-! DEFINITION. Loads, stores and register transfers (41_load_store_transfer.md). -/

namespace Sys2Proof.Machine

/-- LDA: `A <- M; SetZN(A)` (R130). -/
def State.lda (s : State) (o : Operand) : State :=
  let m := s.fetchOperand o
  (m.2.setA m.1).setZN m.1

/-- LDX: `X <- M; SetZN(X)` (R131). The index of an indexed form is read before X is written. -/
def State.ldx (s : State) (o : Operand) : State :=
  let m := s.fetchOperand o
  (m.2.setX m.1).setZN m.1

/-- LDY: `Y <- M; SetZN(Y)` (R132). -/
def State.ldy (s : State) (o : Operand) : State :=
  let m := s.fetchOperand o
  (m.2.setY m.1).setZN m.1

/-- STA, STX, STY: `MemWrite(EA, 1, v)`, with no read of `EA` and no flag (R133 to R135). -/
def State.store (s : State) (m : MemOperand) (v : Byte) : State :=
  let ea := s.resolve m
  ea.2.memWrite ea.1 v

/-- `LDA #$nn` (R130). -/
def execLdaImm (d8 : Byte) (s : State) : Outcome := .next (s.lda (.immediate d8))

/-- `LDA $nn` (R130). -/
def execLdaZp (d8 : Byte) (s : State) : Outcome := .next (s.lda (.memory (.zeroPage d8)))

/-- `LDA $nn,X` (R130). -/
def execLdaZpx (d8 : Byte) (s : State) : Outcome := .next (s.lda (.memory (.zeroPageX d8)))

/-- `LDA $nnnn` (R130). -/
def execLdaAbs (a16 : Word) (s : State) : Outcome := .next (s.lda (.memory (.absolute a16)))

/-- `LDA $nnnn,X` (R130). -/
def execLdaAbx (a16 : Word) (s : State) : Outcome := .next (s.lda (.memory (.absoluteX a16)))

/-- `LDA $nnnn,Y` (R130). -/
def execLdaAby (a16 : Word) (s : State) : Outcome := .next (s.lda (.memory (.absoluteY a16)))

/-- `LDA ($nn,X)` (R130). -/
def execLdaIzx (d8 : Byte) (s : State) : Outcome := .next (s.lda (.memory (.indirectX d8)))

/-- `LDA ($nn),Y` (R130). -/
def execLdaIzy (d8 : Byte) (s : State) : Outcome := .next (s.lda (.memory (.indirectY d8)))

/-- `LDX #$nn` (R131). -/
def execLdxImm (d8 : Byte) (s : State) : Outcome := .next (s.ldx (.immediate d8))

/-- `LDX $nn` (R131). -/
def execLdxZp (d8 : Byte) (s : State) : Outcome := .next (s.ldx (.memory (.zeroPage d8)))

/-- `LDX $nn,Y` (R131). -/
def execLdxZpy (d8 : Byte) (s : State) : Outcome := .next (s.ldx (.memory (.zeroPageY d8)))

/-- `LDX $nnnn` (R131). -/
def execLdxAbs (a16 : Word) (s : State) : Outcome := .next (s.ldx (.memory (.absolute a16)))

/-- `LDX $nnnn,Y` (R131). -/
def execLdxAby (a16 : Word) (s : State) : Outcome := .next (s.ldx (.memory (.absoluteY a16)))

/-- `LDY #$nn` (R132). -/
def execLdyImm (d8 : Byte) (s : State) : Outcome := .next (s.ldy (.immediate d8))

/-- `LDY $nn` (R132). -/
def execLdyZp (d8 : Byte) (s : State) : Outcome := .next (s.ldy (.memory (.zeroPage d8)))

/-- `LDY $nn,X` (R132). -/
def execLdyZpx (d8 : Byte) (s : State) : Outcome := .next (s.ldy (.memory (.zeroPageX d8)))

/-- `LDY $nnnn` (R132). -/
def execLdyAbs (a16 : Word) (s : State) : Outcome := .next (s.ldy (.memory (.absolute a16)))

/-- `LDY $nnnn,X` (R132). -/
def execLdyAbx (a16 : Word) (s : State) : Outcome := .next (s.ldy (.memory (.absoluteX a16)))

/-- `STA $nn` (R133). -/
def execStaZp (d8 : Byte) (s : State) : Outcome := .next (s.store (.zeroPage d8) s.a)

/-- `STA $nn,X` (R133). -/
def execStaZpx (d8 : Byte) (s : State) : Outcome := .next (s.store (.zeroPageX d8) s.a)

/-- `STA $nnnn` (R133). -/
def execStaAbs (a16 : Word) (s : State) : Outcome := .next (s.store (.absolute a16) s.a)

/-- `STA $nnnn,X` (R133). -/
def execStaAbx (a16 : Word) (s : State) : Outcome := .next (s.store (.absoluteX a16) s.a)

/-- `STA $nnnn,Y` (R133). -/
def execStaAby (a16 : Word) (s : State) : Outcome := .next (s.store (.absoluteY a16) s.a)

/-- `STA ($nn,X)` (R133). -/
def execStaIzx (d8 : Byte) (s : State) : Outcome := .next (s.store (.indirectX d8) s.a)

/-- `STA ($nn),Y` (R133). -/
def execStaIzy (d8 : Byte) (s : State) : Outcome := .next (s.store (.indirectY d8) s.a)

/-- `STX $nn` (R134). -/
def execStxZp (d8 : Byte) (s : State) : Outcome := .next (s.store (.zeroPage d8) s.x)

/-- `STX $nn,Y` (R134). -/
def execStxZpy (d8 : Byte) (s : State) : Outcome := .next (s.store (.zeroPageY d8) s.x)

/-- `STX $nnnn` (R134). -/
def execStxAbs (a16 : Word) (s : State) : Outcome := .next (s.store (.absolute a16) s.x)

/-- `STY $nn` (R135). -/
def execStyZp (d8 : Byte) (s : State) : Outcome := .next (s.store (.zeroPage d8) s.y)

/-- `STY $nn,X` (R135). -/
def execStyZpx (d8 : Byte) (s : State) : Outcome := .next (s.store (.zeroPageX d8) s.y)

/-- `STY $nnnn` (R135). -/
def execStyAbs (a16 : Word) (s : State) : Outcome := .next (s.store (.absolute a16) s.y)

/-- `TAX` (R136). -/
def execTax (s : State) : Outcome := .next ((s.setX s.a).setZN s.a)

/-- `TAY` (R137). -/
def execTay (s : State) : Outcome := .next ((s.setY s.a).setZN s.a)

/-- `TXA` (R138). -/
def execTxa (s : State) : Outcome := .next ((s.setA s.x).setZN s.x)

/-- `TYA` (R139). -/
def execTya (s : State) : Outcome := .next ((s.setA s.y).setZN s.y)

/-- `TSX` (R140). -/
def execTsx (s : State) : Outcome := .next ((s.setX s.sp).setZN s.sp)

/-- `TXS` (R141). -/
def execTxs (s : State) : Outcome := .next (s.setSp s.x)

end Sys2Proof.Machine
end

