-- ==== Sys2Proof/Machine/LogicArith.lean ====
section
/-! DEFINITION. Logic, bit test, arithmetic and compare (43_logic_arith_compare.md). -/

namespace Sys2Proof.Machine

/-- AND, ORA, EOR: `A <- f M; SetZN(A)`, where `f` combines the old A with its argument (R160 to R162). -/
def State.logic (s : State) (f : Byte → Byte) (o : Operand) : State :=
  let m := s.fetchOperand o
  (m.2.setA (f m.1)).setZN (f m.1)

/-- BIT (R163). -/
def State.bitTest (s : State) (o : Operand) : State :=
  let m := s.fetchOperand o
  m.2.setP (m.2.p.bitTest m.2.a m.1)

/-- ADC (R164). -/
def State.adc (s : State) (o : Operand) : State :=
  let m := s.fetchOperand o
  let r := addWithCarry m.2.a m.1 m.2.p.c
  (m.2.setA r.value).setP (m.2.p.ofAdd r)

/-- SBC (R165). -/
def State.sbc (s : State) (o : Operand) : State :=
  let m := s.fetchOperand o
  let r := subWithCarry m.2.a m.1 m.2.p.c
  (m.2.setA r.value).setP (m.2.p.ofAdd r)

/-- CMP, CPX, CPY on the register value `r`, which is not written (R166 to R168). -/
def State.compare (s : State) (r : Byte) (o : Operand) : State :=
  let m := s.fetchOperand o
  m.2.setP (m.2.p.compare r m.1)

/-- `AND #$nn` (R160). -/
def execAndImm (d8 : Byte) (s : State) : Outcome := .next (s.logic (s.a &&& ·) (.immediate d8))

/-- `AND $nn` (R160). -/
def execAndZp (d8 : Byte) (s : State) : Outcome := .next (s.logic (s.a &&& ·) (.memory (.zeroPage d8)))

/-- `AND $nn,X` (R160). -/
def execAndZpx (d8 : Byte) (s : State) : Outcome := .next (s.logic (s.a &&& ·) (.memory (.zeroPageX d8)))

/-- `AND $nnnn` (R160). -/
def execAndAbs (a16 : Word) (s : State) : Outcome := .next (s.logic (s.a &&& ·) (.memory (.absolute a16)))

/-- `AND $nnnn,X` (R160). -/
def execAndAbx (a16 : Word) (s : State) : Outcome := .next (s.logic (s.a &&& ·) (.memory (.absoluteX a16)))

/-- `AND $nnnn,Y` (R160). -/
def execAndAby (a16 : Word) (s : State) : Outcome := .next (s.logic (s.a &&& ·) (.memory (.absoluteY a16)))

/-- `AND ($nn,X)` (R160). -/
def execAndIzx (d8 : Byte) (s : State) : Outcome := .next (s.logic (s.a &&& ·) (.memory (.indirectX d8)))

/-- `AND ($nn),Y` (R160). -/
def execAndIzy (d8 : Byte) (s : State) : Outcome := .next (s.logic (s.a &&& ·) (.memory (.indirectY d8)))

/-- `ORA #$nn` (R161). -/
def execOraImm (d8 : Byte) (s : State) : Outcome := .next (s.logic (s.a ||| ·) (.immediate d8))

/-- `ORA $nn` (R161). -/
def execOraZp (d8 : Byte) (s : State) : Outcome := .next (s.logic (s.a ||| ·) (.memory (.zeroPage d8)))

/-- `ORA $nn,X` (R161). -/
def execOraZpx (d8 : Byte) (s : State) : Outcome := .next (s.logic (s.a ||| ·) (.memory (.zeroPageX d8)))

/-- `ORA $nnnn` (R161). -/
def execOraAbs (a16 : Word) (s : State) : Outcome := .next (s.logic (s.a ||| ·) (.memory (.absolute a16)))

/-- `ORA $nnnn,X` (R161). -/
def execOraAbx (a16 : Word) (s : State) : Outcome := .next (s.logic (s.a ||| ·) (.memory (.absoluteX a16)))

/-- `ORA $nnnn,Y` (R161). -/
def execOraAby (a16 : Word) (s : State) : Outcome := .next (s.logic (s.a ||| ·) (.memory (.absoluteY a16)))

/-- `ORA ($nn,X)` (R161). -/
def execOraIzx (d8 : Byte) (s : State) : Outcome := .next (s.logic (s.a ||| ·) (.memory (.indirectX d8)))

/-- `ORA ($nn),Y` (R161). -/
def execOraIzy (d8 : Byte) (s : State) : Outcome := .next (s.logic (s.a ||| ·) (.memory (.indirectY d8)))

/-- `EOR #$nn` (R162). -/
def execEorImm (d8 : Byte) (s : State) : Outcome := .next (s.logic (s.a ^^^ ·) (.immediate d8))

/-- `EOR $nn` (R162). -/
def execEorZp (d8 : Byte) (s : State) : Outcome := .next (s.logic (s.a ^^^ ·) (.memory (.zeroPage d8)))

/-- `EOR $nn,X` (R162). -/
def execEorZpx (d8 : Byte) (s : State) : Outcome := .next (s.logic (s.a ^^^ ·) (.memory (.zeroPageX d8)))

/-- `EOR $nnnn` (R162). -/
def execEorAbs (a16 : Word) (s : State) : Outcome := .next (s.logic (s.a ^^^ ·) (.memory (.absolute a16)))

/-- `EOR $nnnn,X` (R162). -/
def execEorAbx (a16 : Word) (s : State) : Outcome := .next (s.logic (s.a ^^^ ·) (.memory (.absoluteX a16)))

/-- `EOR $nnnn,Y` (R162). -/
def execEorAby (a16 : Word) (s : State) : Outcome := .next (s.logic (s.a ^^^ ·) (.memory (.absoluteY a16)))

/-- `EOR ($nn,X)` (R162). -/
def execEorIzx (d8 : Byte) (s : State) : Outcome := .next (s.logic (s.a ^^^ ·) (.memory (.indirectX d8)))

/-- `EOR ($nn),Y` (R162). -/
def execEorIzy (d8 : Byte) (s : State) : Outcome := .next (s.logic (s.a ^^^ ·) (.memory (.indirectY d8)))

/-- `BIT $nn` (R163). -/
def execBitZp (d8 : Byte) (s : State) : Outcome := .next (s.bitTest (.memory (.zeroPage d8)))

/-- `BIT $nnnn` (R163). -/
def execBitAbs (a16 : Word) (s : State) : Outcome := .next (s.bitTest (.memory (.absolute a16)))

/-- `ADC #$nn` (R164). -/
def execAdcImm (d8 : Byte) (s : State) : Outcome := .next (s.adc (.immediate d8))

/-- `ADC $nn` (R164). -/
def execAdcZp (d8 : Byte) (s : State) : Outcome := .next (s.adc (.memory (.zeroPage d8)))

/-- `ADC $nn,X` (R164). -/
def execAdcZpx (d8 : Byte) (s : State) : Outcome := .next (s.adc (.memory (.zeroPageX d8)))

/-- `ADC $nnnn` (R164). -/
def execAdcAbs (a16 : Word) (s : State) : Outcome := .next (s.adc (.memory (.absolute a16)))

/-- `ADC $nnnn,X` (R164). -/
def execAdcAbx (a16 : Word) (s : State) : Outcome := .next (s.adc (.memory (.absoluteX a16)))

/-- `ADC $nnnn,Y` (R164). -/
def execAdcAby (a16 : Word) (s : State) : Outcome := .next (s.adc (.memory (.absoluteY a16)))

/-- `ADC ($nn,X)` (R164). -/
def execAdcIzx (d8 : Byte) (s : State) : Outcome := .next (s.adc (.memory (.indirectX d8)))

/-- `ADC ($nn),Y` (R164). -/
def execAdcIzy (d8 : Byte) (s : State) : Outcome := .next (s.adc (.memory (.indirectY d8)))

/-- `SBC #$nn` (R165). -/
def execSbcImm (d8 : Byte) (s : State) : Outcome := .next (s.sbc (.immediate d8))

/-- `SBC $nn` (R165). -/
def execSbcZp (d8 : Byte) (s : State) : Outcome := .next (s.sbc (.memory (.zeroPage d8)))

/-- `SBC $nn,X` (R165). -/
def execSbcZpx (d8 : Byte) (s : State) : Outcome := .next (s.sbc (.memory (.zeroPageX d8)))

/-- `SBC $nnnn` (R165). -/
def execSbcAbs (a16 : Word) (s : State) : Outcome := .next (s.sbc (.memory (.absolute a16)))

/-- `SBC $nnnn,X` (R165). -/
def execSbcAbx (a16 : Word) (s : State) : Outcome := .next (s.sbc (.memory (.absoluteX a16)))

/-- `SBC $nnnn,Y` (R165). -/
def execSbcAby (a16 : Word) (s : State) : Outcome := .next (s.sbc (.memory (.absoluteY a16)))

/-- `SBC ($nn,X)` (R165). -/
def execSbcIzx (d8 : Byte) (s : State) : Outcome := .next (s.sbc (.memory (.indirectX d8)))

/-- `SBC ($nn),Y` (R165). -/
def execSbcIzy (d8 : Byte) (s : State) : Outcome := .next (s.sbc (.memory (.indirectY d8)))

/-- `CMP #$nn` (R166). -/
def execCmpImm (d8 : Byte) (s : State) : Outcome := .next (s.compare s.a (.immediate d8))

/-- `CMP $nn` (R166). -/
def execCmpZp (d8 : Byte) (s : State) : Outcome := .next (s.compare s.a (.memory (.zeroPage d8)))

/-- `CMP $nn,X` (R166). -/
def execCmpZpx (d8 : Byte) (s : State) : Outcome := .next (s.compare s.a (.memory (.zeroPageX d8)))

/-- `CMP $nnnn` (R166). -/
def execCmpAbs (a16 : Word) (s : State) : Outcome := .next (s.compare s.a (.memory (.absolute a16)))

/-- `CMP $nnnn,X` (R166). -/
def execCmpAbx (a16 : Word) (s : State) : Outcome := .next (s.compare s.a (.memory (.absoluteX a16)))

/-- `CMP $nnnn,Y` (R166). -/
def execCmpAby (a16 : Word) (s : State) : Outcome := .next (s.compare s.a (.memory (.absoluteY a16)))

/-- `CMP ($nn,X)` (R166). -/
def execCmpIzx (d8 : Byte) (s : State) : Outcome := .next (s.compare s.a (.memory (.indirectX d8)))

/-- `CMP ($nn),Y` (R166). -/
def execCmpIzy (d8 : Byte) (s : State) : Outcome := .next (s.compare s.a (.memory (.indirectY d8)))

/-- `CPX #$nn` (R167). -/
def execCpxImm (d8 : Byte) (s : State) : Outcome := .next (s.compare s.x (.immediate d8))

/-- `CPX $nn` (R167). -/
def execCpxZp (d8 : Byte) (s : State) : Outcome := .next (s.compare s.x (.memory (.zeroPage d8)))

/-- `CPX $nnnn` (R167). -/
def execCpxAbs (a16 : Word) (s : State) : Outcome := .next (s.compare s.x (.memory (.absolute a16)))

/-- `CPY #$nn` (R168). -/
def execCpyImm (d8 : Byte) (s : State) : Outcome := .next (s.compare s.y (.immediate d8))

/-- `CPY $nn` (R168). -/
def execCpyZp (d8 : Byte) (s : State) : Outcome := .next (s.compare s.y (.memory (.zeroPage d8)))

/-- `CPY $nnnn` (R168). -/
def execCpyAbs (a16 : Word) (s : State) : Outcome := .next (s.compare s.y (.memory (.absolute a16)))

end Sys2Proof.Machine
end

