-- ==== Sys2Proof/Machine/Shift.lean ====
section
/-! DEFINITION. Shift and rotate (44_incdec_shift.md). -/

namespace Sys2Proof.Machine

/-- ASL, LSR, ROL, ROR, by the function `f` of the staged carry and the operand: the carry takes the bit that
leaves, the value is written back, and Z and N follow it (R186 to R190). -/
def State.shift (s : State) (f : Bool → Byte → ShiftResult) (o : ShiftOperand) : State :=
  let staged := s.stageShift o
  let r := f s.p.c staged.2.1
  (staged.2.2.writeBack staged.1 r.value).setP (staged.2.2.p.ofShift r)

/-- `ASL A` (R186). -/
def execAslA (s : State) : Outcome := .next (s.shift aslByte .accumulator)

/-- `ASL $nn` (R186). -/
def execAslZp (d8 : Byte) (s : State) : Outcome := .next (s.shift aslByte (.memory (.zeroPage d8)))

/-- `ASL $nn,X` (R186). -/
def execAslZpx (d8 : Byte) (s : State) : Outcome := .next (s.shift aslByte (.memory (.zeroPageX d8)))

/-- `ASL $nnnn` (R186). -/
def execAslAbs (a16 : Word) (s : State) : Outcome := .next (s.shift aslByte (.memory (.absolute a16)))

/-- `ASL $nnnn,X` (R186). -/
def execAslAbx (a16 : Word) (s : State) : Outcome := .next (s.shift aslByte (.memory (.absoluteX a16)))

/-- `LSR A` (R187). -/
def execLsrA (s : State) : Outcome := .next (s.shift lsrByte .accumulator)

/-- `LSR $nn` (R187). -/
def execLsrZp (d8 : Byte) (s : State) : Outcome := .next (s.shift lsrByte (.memory (.zeroPage d8)))

/-- `LSR $nn,X` (R187). -/
def execLsrZpx (d8 : Byte) (s : State) : Outcome := .next (s.shift lsrByte (.memory (.zeroPageX d8)))

/-- `LSR $nnnn` (R187). -/
def execLsrAbs (a16 : Word) (s : State) : Outcome := .next (s.shift lsrByte (.memory (.absolute a16)))

/-- `LSR $nnnn,X` (R187). -/
def execLsrAbx (a16 : Word) (s : State) : Outcome := .next (s.shift lsrByte (.memory (.absoluteX a16)))

/-- `ROL A` (R188). -/
def execRolA (s : State) : Outcome := .next (s.shift rolByte .accumulator)

/-- `ROL $nn` (R188). -/
def execRolZp (d8 : Byte) (s : State) : Outcome := .next (s.shift rolByte (.memory (.zeroPage d8)))

/-- `ROL $nn,X` (R188). -/
def execRolZpx (d8 : Byte) (s : State) : Outcome := .next (s.shift rolByte (.memory (.zeroPageX d8)))

/-- `ROL $nnnn` (R188). -/
def execRolAbs (a16 : Word) (s : State) : Outcome := .next (s.shift rolByte (.memory (.absolute a16)))

/-- `ROL $nnnn,X` (R188). -/
def execRolAbx (a16 : Word) (s : State) : Outcome := .next (s.shift rolByte (.memory (.absoluteX a16)))

/-- `ROR A` (R189). -/
def execRorA (s : State) : Outcome := .next (s.shift rorByte .accumulator)

/-- `ROR $nn` (R189). -/
def execRorZp (d8 : Byte) (s : State) : Outcome := .next (s.shift rorByte (.memory (.zeroPage d8)))

/-- `ROR $nn,X` (R189). -/
def execRorZpx (d8 : Byte) (s : State) : Outcome := .next (s.shift rorByte (.memory (.zeroPageX d8)))

/-- `ROR $nnnn` (R189). -/
def execRorAbs (a16 : Word) (s : State) : Outcome := .next (s.shift rorByte (.memory (.absolute a16)))

/-- `ROR $nnnn,X` (R189). -/
def execRorAbx (a16 : Word) (s : State) : Outcome := .next (s.shift rorByte (.memory (.absoluteX a16)))

end Sys2Proof.Machine
end

