-- ==== Sys2Proof/Machine/Stack.lean ====
section
/-! DEFINITION. Stack instructions (42_stack.md). -/

namespace Sys2Proof.Machine

/-- PLA: `A <- Pull(); SetZN(A)` (R152). -/
def State.pla (s : State) : State :=
  let v := s.pull
  (v.2.setA v.1).setZN v.1

/-- PLP: `UnpackP(Pull())` (R153). -/
def State.plp (s : State) : State :=
  let v := s.pull
  v.2.setP (unpackP v.1)

/-- `PHA` (R150). -/
def execPha (s : State) : Outcome := .next (s.push s.a)

/-- `PHP` (R151). -/
def execPhp (s : State) : Outcome := .next (s.push (packP true s.p))

/-- `PLA` (R152). -/
def execPla (s : State) : Outcome := .next (s.pla)

/-- `PLP` (R153). -/
def execPlp (s : State) : Outcome := .next (s.plp)

end Sys2Proof.Machine
end

