-- ==== Sys2Proof/Machine/System.lean ====
section
/-! DEFINITION. Flag set and clear, BRK, NOP and RTI (46_flags_system.md). -/

namespace Sys2Proof.Machine

/-- BRK_PAD as an amount added to PC (00_scope.md R9). -/
def brkPadWord (pad : Bool) : Word := (BitVec.ofBool pad).setWidth 16

/-- BRK: the entry sequence with the pushed address `PC + BRK_PAD`, bit 4 of the pushed status set, and the
IRQ/BRK vector, whatever P.I is (R227, 60_exceptions.md R243). -/
def State.brk (s : State) : State := s.enter (s.pc + brkPadWord s.config.brkPad) true irqVector

/-- `CLC` (R220). -/
def execClc (s : State) : Outcome := .next (s.setP { s.p with c := false })

/-- `CLD` (R221). -/
def execCld (s : State) : Outcome := .next (s.setP { s.p with d := false })

/-- `CLI` (R222). -/
def execCli (s : State) : Outcome := .next (s.setP { s.p with i := false })

/-- `CLV` (R223). -/
def execClv (s : State) : Outcome := .next (s.setP { s.p with v := false })

/-- `SEC` (R224). -/
def execSec (s : State) : Outcome := .next (s.setP { s.p with c := true })

/-- `SED` (R225). -/
def execSed (s : State) : Outcome := .next (s.setP { s.p with d := true })

/-- `SEI` (R226). -/
def execSei (s : State) : Outcome := .next (s.setP { s.p with i := true })

/-- `BRK` (R227). -/
def execBrk (s : State) : Outcome := .next (s.brk)

/-- `NOP` (R228). -/
def execNop (s : State) : Outcome := .next (s)

/-- `RTI` (R230). -/
def execRti (s : State) : Outcome := .next (s.leave)

end Sys2Proof.Machine
end

