-- ==== Sys2Proof/Machine/Unassigned.lean ====
section
/-! DEFINITION. The 105 unassigned opcodes: each performs the resolver of its ILLEGAL_MODE and nothing else
(46_flags_system.md R231). -/

namespace Sys2Proof.Machine

/-- Unassigned opcode `02` (R231). -/
def execIll02 (o : Operand) (s : State) : Outcome := .next (s.resolveOnly o)

/-- Unassigned opcode `03` (R231). -/
def execIll03 (o : Operand) (s : State) : Outcome := .next (s.resolveOnly o)

/-- Unassigned opcode `04` (R231). -/
def execIll04 (o : Operand) (s : State) : Outcome := .next (s.resolveOnly o)

/-- Unassigned opcode `07` (R231). -/
def execIll07 (o : Operand) (s : State) : Outcome := .next (s.resolveOnly o)

/-- Unassigned opcode `0B` (R231). -/
def execIll0B (o : Operand) (s : State) : Outcome := .next (s.resolveOnly o)

/-- Unassigned opcode `0C` (R231). -/
def execIll0C (o : Operand) (s : State) : Outcome := .next (s.resolveOnly o)

/-- Unassigned opcode `0F` (R231). -/
def execIll0F (o : Operand) (s : State) : Outcome := .next (s.resolveOnly o)

/-- Unassigned opcode `12` (R231). -/
def execIll12 (o : Operand) (s : State) : Outcome := .next (s.resolveOnly o)

/-- Unassigned opcode `13` (R231). -/
def execIll13 (o : Operand) (s : State) : Outcome := .next (s.resolveOnly o)

/-- Unassigned opcode `14` (R231). -/
def execIll14 (o : Operand) (s : State) : Outcome := .next (s.resolveOnly o)

/-- Unassigned opcode `17` (R231). -/
def execIll17 (o : Operand) (s : State) : Outcome := .next (s.resolveOnly o)

/-- Unassigned opcode `1A` (R231). -/
def execIll1A (o : Operand) (s : State) : Outcome := .next (s.resolveOnly o)

/-- Unassigned opcode `1B` (R231). -/
def execIll1B (o : Operand) (s : State) : Outcome := .next (s.resolveOnly o)

/-- Unassigned opcode `1C` (R231). -/
def execIll1C (o : Operand) (s : State) : Outcome := .next (s.resolveOnly o)

/-- Unassigned opcode `1F` (R231). -/
def execIll1F (o : Operand) (s : State) : Outcome := .next (s.resolveOnly o)

/-- Unassigned opcode `22` (R231). -/
def execIll22 (o : Operand) (s : State) : Outcome := .next (s.resolveOnly o)

/-- Unassigned opcode `23` (R231). -/
def execIll23 (o : Operand) (s : State) : Outcome := .next (s.resolveOnly o)

/-- Unassigned opcode `27` (R231). -/
def execIll27 (o : Operand) (s : State) : Outcome := .next (s.resolveOnly o)

/-- Unassigned opcode `2B` (R231). -/
def execIll2B (o : Operand) (s : State) : Outcome := .next (s.resolveOnly o)

/-- Unassigned opcode `2F` (R231). -/
def execIll2F (o : Operand) (s : State) : Outcome := .next (s.resolveOnly o)

/-- Unassigned opcode `32` (R231). -/
def execIll32 (o : Operand) (s : State) : Outcome := .next (s.resolveOnly o)

/-- Unassigned opcode `33` (R231). -/
def execIll33 (o : Operand) (s : State) : Outcome := .next (s.resolveOnly o)

/-- Unassigned opcode `34` (R231). -/
def execIll34 (o : Operand) (s : State) : Outcome := .next (s.resolveOnly o)

/-- Unassigned opcode `37` (R231). -/
def execIll37 (o : Operand) (s : State) : Outcome := .next (s.resolveOnly o)

/-- Unassigned opcode `3A` (R231). -/
def execIll3A (o : Operand) (s : State) : Outcome := .next (s.resolveOnly o)

/-- Unassigned opcode `3B` (R231). -/
def execIll3B (o : Operand) (s : State) : Outcome := .next (s.resolveOnly o)

/-- Unassigned opcode `3C` (R231). -/
def execIll3C (o : Operand) (s : State) : Outcome := .next (s.resolveOnly o)

/-- Unassigned opcode `3F` (R231). -/
def execIll3F (o : Operand) (s : State) : Outcome := .next (s.resolveOnly o)

/-- Unassigned opcode `42` (R231). -/
def execIll42 (o : Operand) (s : State) : Outcome := .next (s.resolveOnly o)

/-- Unassigned opcode `43` (R231). -/
def execIll43 (o : Operand) (s : State) : Outcome := .next (s.resolveOnly o)

/-- Unassigned opcode `44` (R231). -/
def execIll44 (o : Operand) (s : State) : Outcome := .next (s.resolveOnly o)

/-- Unassigned opcode `47` (R231). -/
def execIll47 (o : Operand) (s : State) : Outcome := .next (s.resolveOnly o)

/-- Unassigned opcode `4B` (R231). -/
def execIll4B (o : Operand) (s : State) : Outcome := .next (s.resolveOnly o)

/-- Unassigned opcode `4F` (R231). -/
def execIll4F (o : Operand) (s : State) : Outcome := .next (s.resolveOnly o)

/-- Unassigned opcode `52` (R231). -/
def execIll52 (o : Operand) (s : State) : Outcome := .next (s.resolveOnly o)

/-- Unassigned opcode `53` (R231). -/
def execIll53 (o : Operand) (s : State) : Outcome := .next (s.resolveOnly o)

/-- Unassigned opcode `54` (R231). -/
def execIll54 (o : Operand) (s : State) : Outcome := .next (s.resolveOnly o)

/-- Unassigned opcode `57` (R231). -/
def execIll57 (o : Operand) (s : State) : Outcome := .next (s.resolveOnly o)

/-- Unassigned opcode `5A` (R231). -/
def execIll5A (o : Operand) (s : State) : Outcome := .next (s.resolveOnly o)

/-- Unassigned opcode `5B` (R231). -/
def execIll5B (o : Operand) (s : State) : Outcome := .next (s.resolveOnly o)

/-- Unassigned opcode `5C` (R231). -/
def execIll5C (o : Operand) (s : State) : Outcome := .next (s.resolveOnly o)

/-- Unassigned opcode `5F` (R231). -/
def execIll5F (o : Operand) (s : State) : Outcome := .next (s.resolveOnly o)

/-- Unassigned opcode `62` (R231). -/
def execIll62 (o : Operand) (s : State) : Outcome := .next (s.resolveOnly o)

/-- Unassigned opcode `63` (R231). -/
def execIll63 (o : Operand) (s : State) : Outcome := .next (s.resolveOnly o)

/-- Unassigned opcode `64` (R231). -/
def execIll64 (o : Operand) (s : State) : Outcome := .next (s.resolveOnly o)

/-- Unassigned opcode `67` (R231). -/
def execIll67 (o : Operand) (s : State) : Outcome := .next (s.resolveOnly o)

/-- Unassigned opcode `6B` (R231). -/
def execIll6B (o : Operand) (s : State) : Outcome := .next (s.resolveOnly o)

/-- Unassigned opcode `6F` (R231). -/
def execIll6F (o : Operand) (s : State) : Outcome := .next (s.resolveOnly o)

/-- Unassigned opcode `72` (R231). -/
def execIll72 (o : Operand) (s : State) : Outcome := .next (s.resolveOnly o)

/-- Unassigned opcode `73` (R231). -/
def execIll73 (o : Operand) (s : State) : Outcome := .next (s.resolveOnly o)

/-- Unassigned opcode `74` (R231). -/
def execIll74 (o : Operand) (s : State) : Outcome := .next (s.resolveOnly o)

/-- Unassigned opcode `77` (R231). -/
def execIll77 (o : Operand) (s : State) : Outcome := .next (s.resolveOnly o)

/-- Unassigned opcode `7A` (R231). -/
def execIll7A (o : Operand) (s : State) : Outcome := .next (s.resolveOnly o)

/-- Unassigned opcode `7B` (R231). -/
def execIll7B (o : Operand) (s : State) : Outcome := .next (s.resolveOnly o)

/-- Unassigned opcode `7C` (R231). -/
def execIll7C (o : Operand) (s : State) : Outcome := .next (s.resolveOnly o)

/-- Unassigned opcode `7F` (R231). -/
def execIll7F (o : Operand) (s : State) : Outcome := .next (s.resolveOnly o)

/-- Unassigned opcode `80` (R231). -/
def execIll80 (o : Operand) (s : State) : Outcome := .next (s.resolveOnly o)

/-- Unassigned opcode `82` (R231). -/
def execIll82 (o : Operand) (s : State) : Outcome := .next (s.resolveOnly o)

/-- Unassigned opcode `83` (R231). -/
def execIll83 (o : Operand) (s : State) : Outcome := .next (s.resolveOnly o)

/-- Unassigned opcode `87` (R231). -/
def execIll87 (o : Operand) (s : State) : Outcome := .next (s.resolveOnly o)

/-- Unassigned opcode `89` (R231). -/
def execIll89 (o : Operand) (s : State) : Outcome := .next (s.resolveOnly o)

/-- Unassigned opcode `8B` (R231). -/
def execIll8B (o : Operand) (s : State) : Outcome := .next (s.resolveOnly o)

/-- Unassigned opcode `8F` (R231). -/
def execIll8F (o : Operand) (s : State) : Outcome := .next (s.resolveOnly o)

/-- Unassigned opcode `92` (R231). -/
def execIll92 (o : Operand) (s : State) : Outcome := .next (s.resolveOnly o)

/-- Unassigned opcode `93` (R231). -/
def execIll93 (o : Operand) (s : State) : Outcome := .next (s.resolveOnly o)

/-- Unassigned opcode `97` (R231). -/
def execIll97 (o : Operand) (s : State) : Outcome := .next (s.resolveOnly o)

/-- Unassigned opcode `9B` (R231). -/
def execIll9B (o : Operand) (s : State) : Outcome := .next (s.resolveOnly o)

/-- Unassigned opcode `9C` (R231). -/
def execIll9C (o : Operand) (s : State) : Outcome := .next (s.resolveOnly o)

/-- Unassigned opcode `9E` (R231). -/
def execIll9E (o : Operand) (s : State) : Outcome := .next (s.resolveOnly o)

/-- Unassigned opcode `9F` (R231). -/
def execIll9F (o : Operand) (s : State) : Outcome := .next (s.resolveOnly o)

/-- Unassigned opcode `A3` (R231). -/
def execIllA3 (o : Operand) (s : State) : Outcome := .next (s.resolveOnly o)

/-- Unassigned opcode `A7` (R231). -/
def execIllA7 (o : Operand) (s : State) : Outcome := .next (s.resolveOnly o)

/-- Unassigned opcode `AB` (R231). -/
def execIllAB (o : Operand) (s : State) : Outcome := .next (s.resolveOnly o)

/-- Unassigned opcode `AF` (R231). -/
def execIllAF (o : Operand) (s : State) : Outcome := .next (s.resolveOnly o)

/-- Unassigned opcode `B2` (R231). -/
def execIllB2 (o : Operand) (s : State) : Outcome := .next (s.resolveOnly o)

/-- Unassigned opcode `B3` (R231). -/
def execIllB3 (o : Operand) (s : State) : Outcome := .next (s.resolveOnly o)

/-- Unassigned opcode `B7` (R231). -/
def execIllB7 (o : Operand) (s : State) : Outcome := .next (s.resolveOnly o)

/-- Unassigned opcode `BB` (R231). -/
def execIllBB (o : Operand) (s : State) : Outcome := .next (s.resolveOnly o)

/-- Unassigned opcode `BF` (R231). -/
def execIllBF (o : Operand) (s : State) : Outcome := .next (s.resolveOnly o)

/-- Unassigned opcode `C2` (R231). -/
def execIllC2 (o : Operand) (s : State) : Outcome := .next (s.resolveOnly o)

/-- Unassigned opcode `C3` (R231). -/
def execIllC3 (o : Operand) (s : State) : Outcome := .next (s.resolveOnly o)

/-- Unassigned opcode `C7` (R231). -/
def execIllC7 (o : Operand) (s : State) : Outcome := .next (s.resolveOnly o)

/-- Unassigned opcode `CB` (R231). -/
def execIllCB (o : Operand) (s : State) : Outcome := .next (s.resolveOnly o)

/-- Unassigned opcode `CF` (R231). -/
def execIllCF (o : Operand) (s : State) : Outcome := .next (s.resolveOnly o)

/-- Unassigned opcode `D2` (R231). -/
def execIllD2 (o : Operand) (s : State) : Outcome := .next (s.resolveOnly o)

/-- Unassigned opcode `D3` (R231). -/
def execIllD3 (o : Operand) (s : State) : Outcome := .next (s.resolveOnly o)

/-- Unassigned opcode `D4` (R231). -/
def execIllD4 (o : Operand) (s : State) : Outcome := .next (s.resolveOnly o)

/-- Unassigned opcode `D7` (R231). -/
def execIllD7 (o : Operand) (s : State) : Outcome := .next (s.resolveOnly o)

/-- Unassigned opcode `DA` (R231). -/
def execIllDA (o : Operand) (s : State) : Outcome := .next (s.resolveOnly o)

/-- Unassigned opcode `DB` (R231). -/
def execIllDB (o : Operand) (s : State) : Outcome := .next (s.resolveOnly o)

/-- Unassigned opcode `DC` (R231). -/
def execIllDC (o : Operand) (s : State) : Outcome := .next (s.resolveOnly o)

/-- Unassigned opcode `DF` (R231). -/
def execIllDF (o : Operand) (s : State) : Outcome := .next (s.resolveOnly o)

/-- Unassigned opcode `E2` (R231). -/
def execIllE2 (o : Operand) (s : State) : Outcome := .next (s.resolveOnly o)

/-- Unassigned opcode `E3` (R231). -/
def execIllE3 (o : Operand) (s : State) : Outcome := .next (s.resolveOnly o)

/-- Unassigned opcode `E7` (R231). -/
def execIllE7 (o : Operand) (s : State) : Outcome := .next (s.resolveOnly o)

/-- Unassigned opcode `EB` (R231). -/
def execIllEB (o : Operand) (s : State) : Outcome := .next (s.resolveOnly o)

/-- Unassigned opcode `EF` (R231). -/
def execIllEF (o : Operand) (s : State) : Outcome := .next (s.resolveOnly o)

/-- Unassigned opcode `F2` (R231). -/
def execIllF2 (o : Operand) (s : State) : Outcome := .next (s.resolveOnly o)

/-- Unassigned opcode `F3` (R231). -/
def execIllF3 (o : Operand) (s : State) : Outcome := .next (s.resolveOnly o)

/-- Unassigned opcode `F4` (R231). -/
def execIllF4 (o : Operand) (s : State) : Outcome := .next (s.resolveOnly o)

/-- Unassigned opcode `F7` (R231). -/
def execIllF7 (o : Operand) (s : State) : Outcome := .next (s.resolveOnly o)

/-- Unassigned opcode `FA` (R231). -/
def execIllFA (o : Operand) (s : State) : Outcome := .next (s.resolveOnly o)

/-- Unassigned opcode `FB` (R231). -/
def execIllFB (o : Operand) (s : State) : Outcome := .next (s.resolveOnly o)

/-- Unassigned opcode `FC` (R231). -/
def execIllFC (o : Operand) (s : State) : Outcome := .next (s.resolveOnly o)

/-- Unassigned opcode `FF` (R231). -/
def execIllFF (o : Operand) (s : State) : Outcome := .next (s.resolveOnly o)

end Sys2Proof.Machine
end

