-- ==== Sys2Proof/Machine/Dispatch.lean ====
section
/-! DEFINITION. Which meaning each instruction has. -/

namespace Sys2Proof.Machine

def exec (i : Instr) (s : State) : Host.Outcome State Fault Refusal :=
  match i with
  | .ldaImm d8 => Sys2Proof.Machine.execLdaImm d8 s
  | .ldaZp d8 => Sys2Proof.Machine.execLdaZp d8 s
  | .ldaZpx d8 => Sys2Proof.Machine.execLdaZpx d8 s
  | .ldaAbs a16 => Sys2Proof.Machine.execLdaAbs a16 s
  | .ldaAbx a16 => Sys2Proof.Machine.execLdaAbx a16 s
  | .ldaAby a16 => Sys2Proof.Machine.execLdaAby a16 s
  | .ldaIzx d8 => Sys2Proof.Machine.execLdaIzx d8 s
  | .ldaIzy d8 => Sys2Proof.Machine.execLdaIzy d8 s
  | .ldxImm d8 => Sys2Proof.Machine.execLdxImm d8 s
  | .ldxZp d8 => Sys2Proof.Machine.execLdxZp d8 s
  | .ldxZpy d8 => Sys2Proof.Machine.execLdxZpy d8 s
  | .ldxAbs a16 => Sys2Proof.Machine.execLdxAbs a16 s
  | .ldxAby a16 => Sys2Proof.Machine.execLdxAby a16 s
  | .ldyImm d8 => Sys2Proof.Machine.execLdyImm d8 s
  | .ldyZp d8 => Sys2Proof.Machine.execLdyZp d8 s
  | .ldyZpx d8 => Sys2Proof.Machine.execLdyZpx d8 s
  | .ldyAbs a16 => Sys2Proof.Machine.execLdyAbs a16 s
  | .ldyAbx a16 => Sys2Proof.Machine.execLdyAbx a16 s
  | .staZp d8 => Sys2Proof.Machine.execStaZp d8 s
  | .staZpx d8 => Sys2Proof.Machine.execStaZpx d8 s
  | .staAbs a16 => Sys2Proof.Machine.execStaAbs a16 s
  | .staAbx a16 => Sys2Proof.Machine.execStaAbx a16 s
  | .staAby a16 => Sys2Proof.Machine.execStaAby a16 s
  | .staIzx d8 => Sys2Proof.Machine.execStaIzx d8 s
  | .staIzy d8 => Sys2Proof.Machine.execStaIzy d8 s
  | .stxZp d8 => Sys2Proof.Machine.execStxZp d8 s
  | .stxZpy d8 => Sys2Proof.Machine.execStxZpy d8 s
  | .stxAbs a16 => Sys2Proof.Machine.execStxAbs a16 s
  | .styZp d8 => Sys2Proof.Machine.execStyZp d8 s
  | .styZpx d8 => Sys2Proof.Machine.execStyZpx d8 s
  | .styAbs a16 => Sys2Proof.Machine.execStyAbs a16 s
  | .andImm d8 => Sys2Proof.Machine.execAndImm d8 s
  | .andZp d8 => Sys2Proof.Machine.execAndZp d8 s
  | .andZpx d8 => Sys2Proof.Machine.execAndZpx d8 s
  | .andAbs a16 => Sys2Proof.Machine.execAndAbs a16 s
  | .andAbx a16 => Sys2Proof.Machine.execAndAbx a16 s
  | .andAby a16 => Sys2Proof.Machine.execAndAby a16 s
  | .andIzx d8 => Sys2Proof.Machine.execAndIzx d8 s
  | .andIzy d8 => Sys2Proof.Machine.execAndIzy d8 s
  | .oraImm d8 => Sys2Proof.Machine.execOraImm d8 s
  | .oraZp d8 => Sys2Proof.Machine.execOraZp d8 s
  | .oraZpx d8 => Sys2Proof.Machine.execOraZpx d8 s
  | .oraAbs a16 => Sys2Proof.Machine.execOraAbs a16 s
  | .oraAbx a16 => Sys2Proof.Machine.execOraAbx a16 s
  | .oraAby a16 => Sys2Proof.Machine.execOraAby a16 s
  | .oraIzx d8 => Sys2Proof.Machine.execOraIzx d8 s
  | .oraIzy d8 => Sys2Proof.Machine.execOraIzy d8 s
  | .eorImm d8 => Sys2Proof.Machine.execEorImm d8 s
  | .eorZp d8 => Sys2Proof.Machine.execEorZp d8 s
  | .eorZpx d8 => Sys2Proof.Machine.execEorZpx d8 s
  | .eorAbs a16 => Sys2Proof.Machine.execEorAbs a16 s
  | .eorAbx a16 => Sys2Proof.Machine.execEorAbx a16 s
  | .eorAby a16 => Sys2Proof.Machine.execEorAby a16 s
  | .eorIzx d8 => Sys2Proof.Machine.execEorIzx d8 s
  | .eorIzy d8 => Sys2Proof.Machine.execEorIzy d8 s
  | .bitZp d8 => Sys2Proof.Machine.execBitZp d8 s
  | .bitAbs a16 => Sys2Proof.Machine.execBitAbs a16 s
  | .adcImm d8 => Sys2Proof.Machine.execAdcImm d8 s
  | .adcZp d8 => Sys2Proof.Machine.execAdcZp d8 s
  | .adcZpx d8 => Sys2Proof.Machine.execAdcZpx d8 s
  | .adcAbs a16 => Sys2Proof.Machine.execAdcAbs a16 s
  | .adcAbx a16 => Sys2Proof.Machine.execAdcAbx a16 s
  | .adcAby a16 => Sys2Proof.Machine.execAdcAby a16 s
  | .adcIzx d8 => Sys2Proof.Machine.execAdcIzx d8 s
  | .adcIzy d8 => Sys2Proof.Machine.execAdcIzy d8 s
  | .sbcImm d8 => Sys2Proof.Machine.execSbcImm d8 s
  | .sbcZp d8 => Sys2Proof.Machine.execSbcZp d8 s
  | .sbcZpx d8 => Sys2Proof.Machine.execSbcZpx d8 s
  | .sbcAbs a16 => Sys2Proof.Machine.execSbcAbs a16 s
  | .sbcAbx a16 => Sys2Proof.Machine.execSbcAbx a16 s
  | .sbcAby a16 => Sys2Proof.Machine.execSbcAby a16 s
  | .sbcIzx d8 => Sys2Proof.Machine.execSbcIzx d8 s
  | .sbcIzy d8 => Sys2Proof.Machine.execSbcIzy d8 s
  | .cmpImm d8 => Sys2Proof.Machine.execCmpImm d8 s
  | .cmpZp d8 => Sys2Proof.Machine.execCmpZp d8 s
  | .cmpZpx d8 => Sys2Proof.Machine.execCmpZpx d8 s
  | .cmpAbs a16 => Sys2Proof.Machine.execCmpAbs a16 s
  | .cmpAbx a16 => Sys2Proof.Machine.execCmpAbx a16 s
  | .cmpAby a16 => Sys2Proof.Machine.execCmpAby a16 s
  | .cmpIzx d8 => Sys2Proof.Machine.execCmpIzx d8 s
  | .cmpIzy d8 => Sys2Proof.Machine.execCmpIzy d8 s
  | .cpxImm d8 => Sys2Proof.Machine.execCpxImm d8 s
  | .cpxZp d8 => Sys2Proof.Machine.execCpxZp d8 s
  | .cpxAbs a16 => Sys2Proof.Machine.execCpxAbs a16 s
  | .cpyImm d8 => Sys2Proof.Machine.execCpyImm d8 s
  | .cpyZp d8 => Sys2Proof.Machine.execCpyZp d8 s
  | .cpyAbs a16 => Sys2Proof.Machine.execCpyAbs a16 s
  | .incZp d8 => Sys2Proof.Machine.execIncZp d8 s
  | .incZpx d8 => Sys2Proof.Machine.execIncZpx d8 s
  | .incAbs a16 => Sys2Proof.Machine.execIncAbs a16 s
  | .incAbx a16 => Sys2Proof.Machine.execIncAbx a16 s
  | .decZp d8 => Sys2Proof.Machine.execDecZp d8 s
  | .decZpx d8 => Sys2Proof.Machine.execDecZpx d8 s
  | .decAbs a16 => Sys2Proof.Machine.execDecAbs a16 s
  | .decAbx a16 => Sys2Proof.Machine.execDecAbx a16 s
  | .aslZp d8 => Sys2Proof.Machine.execAslZp d8 s
  | .aslZpx d8 => Sys2Proof.Machine.execAslZpx d8 s
  | .aslAbs a16 => Sys2Proof.Machine.execAslAbs a16 s
  | .aslAbx a16 => Sys2Proof.Machine.execAslAbx a16 s
  | .lsrZp d8 => Sys2Proof.Machine.execLsrZp d8 s
  | .lsrZpx d8 => Sys2Proof.Machine.execLsrZpx d8 s
  | .lsrAbs a16 => Sys2Proof.Machine.execLsrAbs a16 s
  | .lsrAbx a16 => Sys2Proof.Machine.execLsrAbx a16 s
  | .rolZp d8 => Sys2Proof.Machine.execRolZp d8 s
  | .rolZpx d8 => Sys2Proof.Machine.execRolZpx d8 s
  | .rolAbs a16 => Sys2Proof.Machine.execRolAbs a16 s
  | .rolAbx a16 => Sys2Proof.Machine.execRolAbx a16 s
  | .rorZp d8 => Sys2Proof.Machine.execRorZp d8 s
  | .rorZpx d8 => Sys2Proof.Machine.execRorZpx d8 s
  | .rorAbs a16 => Sys2Proof.Machine.execRorAbs a16 s
  | .rorAbx a16 => Sys2Proof.Machine.execRorAbx a16 s
  | .jmpAbs a16 => Sys2Proof.Machine.execJmpAbs a16 s
  | .jmpInd a16 => Sys2Proof.Machine.execJmpInd a16 s
  | .jsr a16 => Sys2Proof.Machine.execJsr a16 s
  | .bcc d8 => Sys2Proof.Machine.execBcc d8 s
  | .bcs d8 => Sys2Proof.Machine.execBcs d8 s
  | .bne d8 => Sys2Proof.Machine.execBne d8 s
  | .beq d8 => Sys2Proof.Machine.execBeq d8 s
  | .bpl d8 => Sys2Proof.Machine.execBpl d8 s
  | .bmi d8 => Sys2Proof.Machine.execBmi d8 s
  | .bvc d8 => Sys2Proof.Machine.execBvc d8 s
  | .bvs d8 => Sys2Proof.Machine.execBvs d8 s
  | .ill02 o => Sys2Proof.Machine.execIll02 o s
  | .ill03 o => Sys2Proof.Machine.execIll03 o s
  | .ill04 o => Sys2Proof.Machine.execIll04 o s
  | .ill07 o => Sys2Proof.Machine.execIll07 o s
  | .ill0B o => Sys2Proof.Machine.execIll0B o s
  | .ill0C o => Sys2Proof.Machine.execIll0C o s
  | .ill0F o => Sys2Proof.Machine.execIll0F o s
  | .ill12 o => Sys2Proof.Machine.execIll12 o s
  | .ill13 o => Sys2Proof.Machine.execIll13 o s
  | .ill14 o => Sys2Proof.Machine.execIll14 o s
  | .ill17 o => Sys2Proof.Machine.execIll17 o s
  | .ill1A o => Sys2Proof.Machine.execIll1A o s
  | .ill1B o => Sys2Proof.Machine.execIll1B o s
  | .ill1C o => Sys2Proof.Machine.execIll1C o s
  | .ill1F o => Sys2Proof.Machine.execIll1F o s
  | .ill22 o => Sys2Proof.Machine.execIll22 o s
  | .ill23 o => Sys2Proof.Machine.execIll23 o s
  | .ill27 o => Sys2Proof.Machine.execIll27 o s
  | .ill2B o => Sys2Proof.Machine.execIll2B o s
  | .ill2F o => Sys2Proof.Machine.execIll2F o s
  | .ill32 o => Sys2Proof.Machine.execIll32 o s
  | .ill33 o => Sys2Proof.Machine.execIll33 o s
  | .ill34 o => Sys2Proof.Machine.execIll34 o s
  | .ill37 o => Sys2Proof.Machine.execIll37 o s
  | .ill3A o => Sys2Proof.Machine.execIll3A o s
  | .ill3B o => Sys2Proof.Machine.execIll3B o s
  | .ill3C o => Sys2Proof.Machine.execIll3C o s
  | .ill3F o => Sys2Proof.Machine.execIll3F o s
  | .ill42 o => Sys2Proof.Machine.execIll42 o s
  | .ill43 o => Sys2Proof.Machine.execIll43 o s
  | .ill44 o => Sys2Proof.Machine.execIll44 o s
  | .ill47 o => Sys2Proof.Machine.execIll47 o s
  | .ill4B o => Sys2Proof.Machine.execIll4B o s
  | .ill4F o => Sys2Proof.Machine.execIll4F o s
  | .ill52 o => Sys2Proof.Machine.execIll52 o s
  | .ill53 o => Sys2Proof.Machine.execIll53 o s
  | .ill54 o => Sys2Proof.Machine.execIll54 o s
  | .ill57 o => Sys2Proof.Machine.execIll57 o s
  | .ill5A o => Sys2Proof.Machine.execIll5A o s
  | .ill5B o => Sys2Proof.Machine.execIll5B o s
  | .ill5C o => Sys2Proof.Machine.execIll5C o s
  | .ill5F o => Sys2Proof.Machine.execIll5F o s
  | .ill62 o => Sys2Proof.Machine.execIll62 o s
  | .ill63 o => Sys2Proof.Machine.execIll63 o s
  | .ill64 o => Sys2Proof.Machine.execIll64 o s
  | .ill67 o => Sys2Proof.Machine.execIll67 o s
  | .ill6B o => Sys2Proof.Machine.execIll6B o s
  | .ill6F o => Sys2Proof.Machine.execIll6F o s
  | .ill72 o => Sys2Proof.Machine.execIll72 o s
  | .ill73 o => Sys2Proof.Machine.execIll73 o s
  | .ill74 o => Sys2Proof.Machine.execIll74 o s
  | .ill77 o => Sys2Proof.Machine.execIll77 o s
  | .ill7A o => Sys2Proof.Machine.execIll7A o s
  | .ill7B o => Sys2Proof.Machine.execIll7B o s
  | .ill7C o => Sys2Proof.Machine.execIll7C o s
  | .ill7F o => Sys2Proof.Machine.execIll7F o s
  | .ill80 o => Sys2Proof.Machine.execIll80 o s
  | .ill82 o => Sys2Proof.Machine.execIll82 o s
  | .ill83 o => Sys2Proof.Machine.execIll83 o s
  | .ill87 o => Sys2Proof.Machine.execIll87 o s
  | .ill89 o => Sys2Proof.Machine.execIll89 o s
  | .ill8B o => Sys2Proof.Machine.execIll8B o s
  | .ill8F o => Sys2Proof.Machine.execIll8F o s
  | .ill92 o => Sys2Proof.Machine.execIll92 o s
  | .ill93 o => Sys2Proof.Machine.execIll93 o s
  | .ill97 o => Sys2Proof.Machine.execIll97 o s
  | .ill9B o => Sys2Proof.Machine.execIll9B o s
  | .ill9C o => Sys2Proof.Machine.execIll9C o s
  | .ill9E o => Sys2Proof.Machine.execIll9E o s
  | .ill9F o => Sys2Proof.Machine.execIll9F o s
  | .illA3 o => Sys2Proof.Machine.execIllA3 o s
  | .illA7 o => Sys2Proof.Machine.execIllA7 o s
  | .illAB o => Sys2Proof.Machine.execIllAB o s
  | .illAF o => Sys2Proof.Machine.execIllAF o s
  | .illB2 o => Sys2Proof.Machine.execIllB2 o s
  | .illB3 o => Sys2Proof.Machine.execIllB3 o s
  | .illB7 o => Sys2Proof.Machine.execIllB7 o s
  | .illBB o => Sys2Proof.Machine.execIllBB o s
  | .illBF o => Sys2Proof.Machine.execIllBF o s
  | .illC2 o => Sys2Proof.Machine.execIllC2 o s
  | .illC3 o => Sys2Proof.Machine.execIllC3 o s
  | .illC7 o => Sys2Proof.Machine.execIllC7 o s
  | .illCB o => Sys2Proof.Machine.execIllCB o s
  | .illCF o => Sys2Proof.Machine.execIllCF o s
  | .illD2 o => Sys2Proof.Machine.execIllD2 o s
  | .illD3 o => Sys2Proof.Machine.execIllD3 o s
  | .illD4 o => Sys2Proof.Machine.execIllD4 o s
  | .illD7 o => Sys2Proof.Machine.execIllD7 o s
  | .illDA o => Sys2Proof.Machine.execIllDA o s
  | .illDB o => Sys2Proof.Machine.execIllDB o s
  | .illDC o => Sys2Proof.Machine.execIllDC o s
  | .illDF o => Sys2Proof.Machine.execIllDF o s
  | .illE2 o => Sys2Proof.Machine.execIllE2 o s
  | .illE3 o => Sys2Proof.Machine.execIllE3 o s
  | .illE7 o => Sys2Proof.Machine.execIllE7 o s
  | .illEB o => Sys2Proof.Machine.execIllEB o s
  | .illEF o => Sys2Proof.Machine.execIllEF o s
  | .illF2 o => Sys2Proof.Machine.execIllF2 o s
  | .illF3 o => Sys2Proof.Machine.execIllF3 o s
  | .illF4 o => Sys2Proof.Machine.execIllF4 o s
  | .illF7 o => Sys2Proof.Machine.execIllF7 o s
  | .illFA o => Sys2Proof.Machine.execIllFA o s
  | .illFB o => Sys2Proof.Machine.execIllFB o s
  | .illFC o => Sys2Proof.Machine.execIllFC o s
  | .illFF o => Sys2Proof.Machine.execIllFF o s
  | .tax => Sys2Proof.Machine.execTax s
  | .tay => Sys2Proof.Machine.execTay s
  | .txa => Sys2Proof.Machine.execTxa s
  | .tya => Sys2Proof.Machine.execTya s
  | .tsx => Sys2Proof.Machine.execTsx s
  | .txs => Sys2Proof.Machine.execTxs s
  | .pha => Sys2Proof.Machine.execPha s
  | .php => Sys2Proof.Machine.execPhp s
  | .pla => Sys2Proof.Machine.execPla s
  | .plp => Sys2Proof.Machine.execPlp s
  | .inx => Sys2Proof.Machine.execInx s
  | .dex => Sys2Proof.Machine.execDex s
  | .iny => Sys2Proof.Machine.execIny s
  | .dey => Sys2Proof.Machine.execDey s
  | .aslA => Sys2Proof.Machine.execAslA s
  | .lsrA => Sys2Proof.Machine.execLsrA s
  | .rolA => Sys2Proof.Machine.execRolA s
  | .rorA => Sys2Proof.Machine.execRorA s
  | .rts => Sys2Proof.Machine.execRts s
  | .clc => Sys2Proof.Machine.execClc s
  | .cld => Sys2Proof.Machine.execCld s
  | .cli => Sys2Proof.Machine.execCli s
  | .clv => Sys2Proof.Machine.execClv s
  | .sec => Sys2Proof.Machine.execSec s
  | .sed => Sys2Proof.Machine.execSed s
  | .sei => Sys2Proof.Machine.execSei s
  | .brk => Sys2Proof.Machine.execBrk s
  | .nop => Sys2Proof.Machine.execNop s
  | .rti => Sys2Proof.Machine.execRti s

end Sys2Proof.Machine
end

