-- ==== Sys2Proof/Machine/Descriptor.lean ====
section
/-! DEFINITION. The dispatch table read by instruction: the opcode byte, the handler, the operand with its
mode, and the fetch-policy flag of every instruction (30_encoding.md R81, R84, R85, R88). -/

namespace Sys2Proof

/-- The number `n` of operand bytes a mode reads (R81, R101). -/
def Mode.operandBytes : Mode → Nat
  | .implied => 0
  | .immediate | .zeroPage | .zeroPageX | .zeroPageY | .indirectX | .indirectY => 1
  | .absolute | .absoluteX | .absoluteY | .indirect => 2

/-- The mode that resolves a memory operand. -/
def MemOperand.mode : MemOperand → Mode
  | .zeroPage _ => .zeroPage
  | .zeroPageX _ => .zeroPageX
  | .zeroPageY _ => .zeroPageY
  | .absolute _ => .absolute
  | .absoluteX _ => .absoluteX
  | .absoluteY _ => .absoluteY
  | .indirect _ => .indirect
  | .indirectX _ => .indirectX
  | .indirectY _ => .indirectY

/-- The operand bytes of a memory operand in increasing address order; a word is little-endian (R81, R82). -/
def MemOperand.bytes : MemOperand → List Byte
  | .zeroPage d8 | .zeroPageX d8 | .zeroPageY d8 | .indirectX d8 | .indirectY d8 => [d8]
  | .absolute a16 | .absoluteX a16 | .absoluteY a16 | .indirect a16 => [loByte a16, hiByte a16]

/-- The mode that resolves an operand. -/
def Operand.mode : Operand → Mode
  | .implied => .implied
  | .immediate _ => .immediate
  | .memory m => m.mode

/-- The operand bytes of an operand (R81). -/
def Operand.bytes : Operand → List Byte
  | .implied => []
  | .immediate d8 => [d8]
  | .memory m => m.bytes

/-- The opcode byte of an instruction (R88, R89). -/
def Instr.opcode (i : Instr) : Byte :=
  match i with
  | .ldaImm _ => 0xA9
  | .ldaZp _ => 0xA5
  | .ldaZpx _ => 0xB5
  | .ldaAbs _ => 0xAD
  | .ldaAbx _ => 0xBD
  | .ldaAby _ => 0xB9
  | .ldaIzx _ => 0xA1
  | .ldaIzy _ => 0xB1
  | .ldxImm _ => 0xA2
  | .ldxZp _ => 0xA6
  | .ldxZpy _ => 0xB6
  | .ldxAbs _ => 0xAE
  | .ldxAby _ => 0xBE
  | .ldyImm _ => 0xA0
  | .ldyZp _ => 0xA4
  | .ldyZpx _ => 0xB4
  | .ldyAbs _ => 0xAC
  | .ldyAbx _ => 0xBC
  | .staZp _ => 0x85
  | .staZpx _ => 0x95
  | .staAbs _ => 0x8D
  | .staAbx _ => 0x9D
  | .staAby _ => 0x99
  | .staIzx _ => 0x81
  | .staIzy _ => 0x91
  | .stxZp _ => 0x86
  | .stxZpy _ => 0x96
  | .stxAbs _ => 0x8E
  | .styZp _ => 0x84
  | .styZpx _ => 0x94
  | .styAbs _ => 0x8C
  | .andImm _ => 0x29
  | .andZp _ => 0x25
  | .andZpx _ => 0x35
  | .andAbs _ => 0x2D
  | .andAbx _ => 0x3D
  | .andAby _ => 0x39
  | .andIzx _ => 0x21
  | .andIzy _ => 0x31
  | .oraImm _ => 0x09
  | .oraZp _ => 0x05
  | .oraZpx _ => 0x15
  | .oraAbs _ => 0x0D
  | .oraAbx _ => 0x1D
  | .oraAby _ => 0x19
  | .oraIzx _ => 0x01
  | .oraIzy _ => 0x11
  | .eorImm _ => 0x49
  | .eorZp _ => 0x45
  | .eorZpx _ => 0x55
  | .eorAbs _ => 0x4D
  | .eorAbx _ => 0x5D
  | .eorAby _ => 0x59
  | .eorIzx _ => 0x41
  | .eorIzy _ => 0x51
  | .bitZp _ => 0x24
  | .bitAbs _ => 0x2C
  | .adcImm _ => 0x69
  | .adcZp _ => 0x65
  | .adcZpx _ => 0x75
  | .adcAbs _ => 0x6D
  | .adcAbx _ => 0x7D
  | .adcAby _ => 0x79
  | .adcIzx _ => 0x61
  | .adcIzy _ => 0x71
  | .sbcImm _ => 0xE9
  | .sbcZp _ => 0xE5
  | .sbcZpx _ => 0xF5
  | .sbcAbs _ => 0xED
  | .sbcAbx _ => 0xFD
  | .sbcAby _ => 0xF9
  | .sbcIzx _ => 0xE1
  | .sbcIzy _ => 0xF1
  | .cmpImm _ => 0xC9
  | .cmpZp _ => 0xC5
  | .cmpZpx _ => 0xD5
  | .cmpAbs _ => 0xCD
  | .cmpAbx _ => 0xDD
  | .cmpAby _ => 0xD9
  | .cmpIzx _ => 0xC1
  | .cmpIzy _ => 0xD1
  | .cpxImm _ => 0xE0
  | .cpxZp _ => 0xE4
  | .cpxAbs _ => 0xEC
  | .cpyImm _ => 0xC0
  | .cpyZp _ => 0xC4
  | .cpyAbs _ => 0xCC
  | .incZp _ => 0xE6
  | .incZpx _ => 0xF6
  | .incAbs _ => 0xEE
  | .incAbx _ => 0xFE
  | .decZp _ => 0xC6
  | .decZpx _ => 0xD6
  | .decAbs _ => 0xCE
  | .decAbx _ => 0xDE
  | .aslZp _ => 0x06
  | .aslZpx _ => 0x16
  | .aslAbs _ => 0x0E
  | .aslAbx _ => 0x1E
  | .lsrZp _ => 0x46
  | .lsrZpx _ => 0x56
  | .lsrAbs _ => 0x4E
  | .lsrAbx _ => 0x5E
  | .rolZp _ => 0x26
  | .rolZpx _ => 0x36
  | .rolAbs _ => 0x2E
  | .rolAbx _ => 0x3E
  | .rorZp _ => 0x66
  | .rorZpx _ => 0x76
  | .rorAbs _ => 0x6E
  | .rorAbx _ => 0x7E
  | .jmpAbs _ => 0x4C
  | .jmpInd _ => 0x6C
  | .jsr _ => 0x20
  | .bcc _ => 0x90
  | .bcs _ => 0xB0
  | .bne _ => 0xD0
  | .beq _ => 0xF0
  | .bpl _ => 0x10
  | .bmi _ => 0x30
  | .bvc _ => 0x50
  | .bvs _ => 0x70
  | .ill02 _ => 0x02
  | .ill03 _ => 0x03
  | .ill04 _ => 0x04
  | .ill07 _ => 0x07
  | .ill0B _ => 0x0B
  | .ill0C _ => 0x0C
  | .ill0F _ => 0x0F
  | .ill12 _ => 0x12
  | .ill13 _ => 0x13
  | .ill14 _ => 0x14
  | .ill17 _ => 0x17
  | .ill1A _ => 0x1A
  | .ill1B _ => 0x1B
  | .ill1C _ => 0x1C
  | .ill1F _ => 0x1F
  | .ill22 _ => 0x22
  | .ill23 _ => 0x23
  | .ill27 _ => 0x27
  | .ill2B _ => 0x2B
  | .ill2F _ => 0x2F
  | .ill32 _ => 0x32
  | .ill33 _ => 0x33
  | .ill34 _ => 0x34
  | .ill37 _ => 0x37
  | .ill3A _ => 0x3A
  | .ill3B _ => 0x3B
  | .ill3C _ => 0x3C
  | .ill3F _ => 0x3F
  | .ill42 _ => 0x42
  | .ill43 _ => 0x43
  | .ill44 _ => 0x44
  | .ill47 _ => 0x47
  | .ill4B _ => 0x4B
  | .ill4F _ => 0x4F
  | .ill52 _ => 0x52
  | .ill53 _ => 0x53
  | .ill54 _ => 0x54
  | .ill57 _ => 0x57
  | .ill5A _ => 0x5A
  | .ill5B _ => 0x5B
  | .ill5C _ => 0x5C
  | .ill5F _ => 0x5F
  | .ill62 _ => 0x62
  | .ill63 _ => 0x63
  | .ill64 _ => 0x64
  | .ill67 _ => 0x67
  | .ill6B _ => 0x6B
  | .ill6F _ => 0x6F
  | .ill72 _ => 0x72
  | .ill73 _ => 0x73
  | .ill74 _ => 0x74
  | .ill77 _ => 0x77
  | .ill7A _ => 0x7A
  | .ill7B _ => 0x7B
  | .ill7C _ => 0x7C
  | .ill7F _ => 0x7F
  | .ill80 _ => 0x80
  | .ill82 _ => 0x82
  | .ill83 _ => 0x83
  | .ill87 _ => 0x87
  | .ill89 _ => 0x89
  | .ill8B _ => 0x8B
  | .ill8F _ => 0x8F
  | .ill92 _ => 0x92
  | .ill93 _ => 0x93
  | .ill97 _ => 0x97
  | .ill9B _ => 0x9B
  | .ill9C _ => 0x9C
  | .ill9E _ => 0x9E
  | .ill9F _ => 0x9F
  | .illA3 _ => 0xA3
  | .illA7 _ => 0xA7
  | .illAB _ => 0xAB
  | .illAF _ => 0xAF
  | .illB2 _ => 0xB2
  | .illB3 _ => 0xB3
  | .illB7 _ => 0xB7
  | .illBB _ => 0xBB
  | .illBF _ => 0xBF
  | .illC2 _ => 0xC2
  | .illC3 _ => 0xC3
  | .illC7 _ => 0xC7
  | .illCB _ => 0xCB
  | .illCF _ => 0xCF
  | .illD2 _ => 0xD2
  | .illD3 _ => 0xD3
  | .illD4 _ => 0xD4
  | .illD7 _ => 0xD7
  | .illDA _ => 0xDA
  | .illDB _ => 0xDB
  | .illDC _ => 0xDC
  | .illDF _ => 0xDF
  | .illE2 _ => 0xE2
  | .illE3 _ => 0xE3
  | .illE7 _ => 0xE7
  | .illEB _ => 0xEB
  | .illEF _ => 0xEF
  | .illF2 _ => 0xF2
  | .illF3 _ => 0xF3
  | .illF4 _ => 0xF4
  | .illF7 _ => 0xF7
  | .illFA _ => 0xFA
  | .illFB _ => 0xFB
  | .illFC _ => 0xFC
  | .illFF _ => 0xFF
  | .tax => 0xAA
  | .tay => 0xA8
  | .txa => 0x8A
  | .tya => 0x98
  | .tsx => 0xBA
  | .txs => 0x9A
  | .pha => 0x48
  | .php => 0x08
  | .pla => 0x68
  | .plp => 0x28
  | .inx => 0xE8
  | .dex => 0xCA
  | .iny => 0xC8
  | .dey => 0x88
  | .aslA => 0x0A
  | .lsrA => 0x4A
  | .rolA => 0x2A
  | .rorA => 0x6A
  | .rts => 0x60
  | .clc => 0x18
  | .cld => 0xD8
  | .cli => 0x58
  | .clv => 0xB8
  | .sec => 0x38
  | .sed => 0xF8
  | .sei => 0x78
  | .brk => 0x00
  | .nop => 0xEA
  | .rti => 0x40

/-- The handler of an instruction (R84, R88, R90). -/
def Instr.handler (i : Instr) : Handler :=
  match i with
  | .ldaImm _ => .lda
  | .ldaZp _ => .lda
  | .ldaZpx _ => .lda
  | .ldaAbs _ => .lda
  | .ldaAbx _ => .lda
  | .ldaAby _ => .lda
  | .ldaIzx _ => .lda
  | .ldaIzy _ => .lda
  | .ldxImm _ => .ldx
  | .ldxZp _ => .ldx
  | .ldxZpy _ => .ldx
  | .ldxAbs _ => .ldx
  | .ldxAby _ => .ldx
  | .ldyImm _ => .ldy
  | .ldyZp _ => .ldy
  | .ldyZpx _ => .ldy
  | .ldyAbs _ => .ldy
  | .ldyAbx _ => .ldy
  | .staZp _ => .sta
  | .staZpx _ => .sta
  | .staAbs _ => .sta
  | .staAbx _ => .sta
  | .staAby _ => .sta
  | .staIzx _ => .sta
  | .staIzy _ => .sta
  | .stxZp _ => .stx
  | .stxZpy _ => .stx
  | .stxAbs _ => .stx
  | .styZp _ => .sty
  | .styZpx _ => .sty
  | .styAbs _ => .sty
  | .andImm _ => .and
  | .andZp _ => .and
  | .andZpx _ => .and
  | .andAbs _ => .and
  | .andAbx _ => .and
  | .andAby _ => .and
  | .andIzx _ => .and
  | .andIzy _ => .and
  | .oraImm _ => .ora
  | .oraZp _ => .ora
  | .oraZpx _ => .ora
  | .oraAbs _ => .ora
  | .oraAbx _ => .ora
  | .oraAby _ => .ora
  | .oraIzx _ => .ora
  | .oraIzy _ => .ora
  | .eorImm _ => .eor
  | .eorZp _ => .eor
  | .eorZpx _ => .eor
  | .eorAbs _ => .eor
  | .eorAbx _ => .eor
  | .eorAby _ => .eor
  | .eorIzx _ => .eor
  | .eorIzy _ => .eor
  | .bitZp _ => .bit
  | .bitAbs _ => .bit
  | .adcImm _ => .adc
  | .adcZp _ => .adc
  | .adcZpx _ => .adc
  | .adcAbs _ => .adc
  | .adcAbx _ => .adc
  | .adcAby _ => .adc
  | .adcIzx _ => .adc
  | .adcIzy _ => .adc
  | .sbcImm _ => .sbc
  | .sbcZp _ => .sbc
  | .sbcZpx _ => .sbc
  | .sbcAbs _ => .sbc
  | .sbcAbx _ => .sbc
  | .sbcAby _ => .sbc
  | .sbcIzx _ => .sbc
  | .sbcIzy _ => .sbc
  | .cmpImm _ => .cmp
  | .cmpZp _ => .cmp
  | .cmpZpx _ => .cmp
  | .cmpAbs _ => .cmp
  | .cmpAbx _ => .cmp
  | .cmpAby _ => .cmp
  | .cmpIzx _ => .cmp
  | .cmpIzy _ => .cmp
  | .cpxImm _ => .cpx
  | .cpxZp _ => .cpx
  | .cpxAbs _ => .cpx
  | .cpyImm _ => .cpy
  | .cpyZp _ => .cpy
  | .cpyAbs _ => .cpy
  | .incZp _ => .inc
  | .incZpx _ => .inc
  | .incAbs _ => .inc
  | .incAbx _ => .inc
  | .decZp _ => .dec
  | .decZpx _ => .dec
  | .decAbs _ => .dec
  | .decAbx _ => .dec
  | .aslZp _ => .asl
  | .aslZpx _ => .asl
  | .aslAbs _ => .asl
  | .aslAbx _ => .asl
  | .lsrZp _ => .lsr
  | .lsrZpx _ => .lsr
  | .lsrAbs _ => .lsr
  | .lsrAbx _ => .lsr
  | .rolZp _ => .rol
  | .rolZpx _ => .rol
  | .rolAbs _ => .rol
  | .rolAbx _ => .rol
  | .rorZp _ => .ror
  | .rorZpx _ => .ror
  | .rorAbs _ => .ror
  | .rorAbx _ => .ror
  | .jmpAbs _ => .jmp
  | .jmpInd _ => .jmp
  | .jsr _ => .jsr
  | .bcc _ => .bcc
  | .bcs _ => .bcs
  | .bne _ => .bne
  | .beq _ => .beq
  | .bpl _ => .bpl
  | .bmi _ => .bmi
  | .bvc _ => .bvc
  | .bvs _ => .bvs
  | .ill02 _ => .noOp
  | .ill03 _ => .noOp
  | .ill04 _ => .noOp
  | .ill07 _ => .noOp
  | .ill0B _ => .noOp
  | .ill0C _ => .noOp
  | .ill0F _ => .noOp
  | .ill12 _ => .noOp
  | .ill13 _ => .noOp
  | .ill14 _ => .noOp
  | .ill17 _ => .noOp
  | .ill1A _ => .noOp
  | .ill1B _ => .noOp
  | .ill1C _ => .noOp
  | .ill1F _ => .noOp
  | .ill22 _ => .noOp
  | .ill23 _ => .noOp
  | .ill27 _ => .noOp
  | .ill2B _ => .noOp
  | .ill2F _ => .noOp
  | .ill32 _ => .noOp
  | .ill33 _ => .noOp
  | .ill34 _ => .noOp
  | .ill37 _ => .noOp
  | .ill3A _ => .noOp
  | .ill3B _ => .noOp
  | .ill3C _ => .noOp
  | .ill3F _ => .noOp
  | .ill42 _ => .noOp
  | .ill43 _ => .noOp
  | .ill44 _ => .noOp
  | .ill47 _ => .noOp
  | .ill4B _ => .noOp
  | .ill4F _ => .noOp
  | .ill52 _ => .noOp
  | .ill53 _ => .noOp
  | .ill54 _ => .noOp
  | .ill57 _ => .noOp
  | .ill5A _ => .noOp
  | .ill5B _ => .noOp
  | .ill5C _ => .noOp
  | .ill5F _ => .noOp
  | .ill62 _ => .noOp
  | .ill63 _ => .noOp
  | .ill64 _ => .noOp
  | .ill67 _ => .noOp
  | .ill6B _ => .noOp
  | .ill6F _ => .noOp
  | .ill72 _ => .noOp
  | .ill73 _ => .noOp
  | .ill74 _ => .noOp
  | .ill77 _ => .noOp
  | .ill7A _ => .noOp
  | .ill7B _ => .noOp
  | .ill7C _ => .noOp
  | .ill7F _ => .noOp
  | .ill80 _ => .noOp
  | .ill82 _ => .noOp
  | .ill83 _ => .noOp
  | .ill87 _ => .noOp
  | .ill89 _ => .noOp
  | .ill8B _ => .noOp
  | .ill8F _ => .noOp
  | .ill92 _ => .noOp
  | .ill93 _ => .noOp
  | .ill97 _ => .noOp
  | .ill9B _ => .noOp
  | .ill9C _ => .noOp
  | .ill9E _ => .noOp
  | .ill9F _ => .noOp
  | .illA3 _ => .noOp
  | .illA7 _ => .noOp
  | .illAB _ => .noOp
  | .illAF _ => .noOp
  | .illB2 _ => .noOp
  | .illB3 _ => .noOp
  | .illB7 _ => .noOp
  | .illBB _ => .noOp
  | .illBF _ => .noOp
  | .illC2 _ => .noOp
  | .illC3 _ => .noOp
  | .illC7 _ => .noOp
  | .illCB _ => .noOp
  | .illCF _ => .noOp
  | .illD2 _ => .noOp
  | .illD3 _ => .noOp
  | .illD4 _ => .noOp
  | .illD7 _ => .noOp
  | .illDA _ => .noOp
  | .illDB _ => .noOp
  | .illDC _ => .noOp
  | .illDF _ => .noOp
  | .illE2 _ => .noOp
  | .illE3 _ => .noOp
  | .illE7 _ => .noOp
  | .illEB _ => .noOp
  | .illEF _ => .noOp
  | .illF2 _ => .noOp
  | .illF3 _ => .noOp
  | .illF4 _ => .noOp
  | .illF7 _ => .noOp
  | .illFA _ => .noOp
  | .illFB _ => .noOp
  | .illFC _ => .noOp
  | .illFF _ => .noOp
  | .tax => .tax
  | .tay => .tay
  | .txa => .txa
  | .tya => .tya
  | .tsx => .tsx
  | .txs => .txs
  | .pha => .pha
  | .php => .php
  | .pla => .pla
  | .plp => .plp
  | .inx => .inx
  | .dex => .dex
  | .iny => .iny
  | .dey => .dey
  | .aslA => .asl
  | .lsrA => .lsr
  | .rolA => .rol
  | .rorA => .ror
  | .rts => .rts
  | .clc => .clc
  | .cld => .cld
  | .cli => .cli
  | .clv => .clv
  | .sec => .sec
  | .sed => .sed
  | .sei => .sei
  | .brk => .brk
  | .nop => .nop
  | .rti => .rti

/-- The operand of an instruction, and with it the addressing mode (R84, R86, R87, R90). -/
def Instr.operand (i : Instr) : Operand :=
  match i with
  | .ldaImm d8 => .immediate d8
  | .ldaZp d8 => .memory (.zeroPage d8)
  | .ldaZpx d8 => .memory (.zeroPageX d8)
  | .ldaAbs a16 => .memory (.absolute a16)
  | .ldaAbx a16 => .memory (.absoluteX a16)
  | .ldaAby a16 => .memory (.absoluteY a16)
  | .ldaIzx d8 => .memory (.indirectX d8)
  | .ldaIzy d8 => .memory (.indirectY d8)
  | .ldxImm d8 => .immediate d8
  | .ldxZp d8 => .memory (.zeroPage d8)
  | .ldxZpy d8 => .memory (.zeroPageY d8)
  | .ldxAbs a16 => .memory (.absolute a16)
  | .ldxAby a16 => .memory (.absoluteY a16)
  | .ldyImm d8 => .immediate d8
  | .ldyZp d8 => .memory (.zeroPage d8)
  | .ldyZpx d8 => .memory (.zeroPageX d8)
  | .ldyAbs a16 => .memory (.absolute a16)
  | .ldyAbx a16 => .memory (.absoluteX a16)
  | .staZp d8 => .memory (.zeroPage d8)
  | .staZpx d8 => .memory (.zeroPageX d8)
  | .staAbs a16 => .memory (.absolute a16)
  | .staAbx a16 => .memory (.absoluteX a16)
  | .staAby a16 => .memory (.absoluteY a16)
  | .staIzx d8 => .memory (.indirectX d8)
  | .staIzy d8 => .memory (.indirectY d8)
  | .stxZp d8 => .memory (.zeroPage d8)
  | .stxZpy d8 => .memory (.zeroPageY d8)
  | .stxAbs a16 => .memory (.absolute a16)
  | .styZp d8 => .memory (.zeroPage d8)
  | .styZpx d8 => .memory (.zeroPageX d8)
  | .styAbs a16 => .memory (.absolute a16)
  | .andImm d8 => .immediate d8
  | .andZp d8 => .memory (.zeroPage d8)
  | .andZpx d8 => .memory (.zeroPageX d8)
  | .andAbs a16 => .memory (.absolute a16)
  | .andAbx a16 => .memory (.absoluteX a16)
  | .andAby a16 => .memory (.absoluteY a16)
  | .andIzx d8 => .memory (.indirectX d8)
  | .andIzy d8 => .memory (.indirectY d8)
  | .oraImm d8 => .immediate d8
  | .oraZp d8 => .memory (.zeroPage d8)
  | .oraZpx d8 => .memory (.zeroPageX d8)
  | .oraAbs a16 => .memory (.absolute a16)
  | .oraAbx a16 => .memory (.absoluteX a16)
  | .oraAby a16 => .memory (.absoluteY a16)
  | .oraIzx d8 => .memory (.indirectX d8)
  | .oraIzy d8 => .memory (.indirectY d8)
  | .eorImm d8 => .immediate d8
  | .eorZp d8 => .memory (.zeroPage d8)
  | .eorZpx d8 => .memory (.zeroPageX d8)
  | .eorAbs a16 => .memory (.absolute a16)
  | .eorAbx a16 => .memory (.absoluteX a16)
  | .eorAby a16 => .memory (.absoluteY a16)
  | .eorIzx d8 => .memory (.indirectX d8)
  | .eorIzy d8 => .memory (.indirectY d8)
  | .bitZp d8 => .memory (.zeroPage d8)
  | .bitAbs a16 => .memory (.absolute a16)
  | .adcImm d8 => .immediate d8
  | .adcZp d8 => .memory (.zeroPage d8)
  | .adcZpx d8 => .memory (.zeroPageX d8)
  | .adcAbs a16 => .memory (.absolute a16)
  | .adcAbx a16 => .memory (.absoluteX a16)
  | .adcAby a16 => .memory (.absoluteY a16)
  | .adcIzx d8 => .memory (.indirectX d8)
  | .adcIzy d8 => .memory (.indirectY d8)
  | .sbcImm d8 => .immediate d8
  | .sbcZp d8 => .memory (.zeroPage d8)
  | .sbcZpx d8 => .memory (.zeroPageX d8)
  | .sbcAbs a16 => .memory (.absolute a16)
  | .sbcAbx a16 => .memory (.absoluteX a16)
  | .sbcAby a16 => .memory (.absoluteY a16)
  | .sbcIzx d8 => .memory (.indirectX d8)
  | .sbcIzy d8 => .memory (.indirectY d8)
  | .cmpImm d8 => .immediate d8
  | .cmpZp d8 => .memory (.zeroPage d8)
  | .cmpZpx d8 => .memory (.zeroPageX d8)
  | .cmpAbs a16 => .memory (.absolute a16)
  | .cmpAbx a16 => .memory (.absoluteX a16)
  | .cmpAby a16 => .memory (.absoluteY a16)
  | .cmpIzx d8 => .memory (.indirectX d8)
  | .cmpIzy d8 => .memory (.indirectY d8)
  | .cpxImm d8 => .immediate d8
  | .cpxZp d8 => .memory (.zeroPage d8)
  | .cpxAbs a16 => .memory (.absolute a16)
  | .cpyImm d8 => .immediate d8
  | .cpyZp d8 => .memory (.zeroPage d8)
  | .cpyAbs a16 => .memory (.absolute a16)
  | .incZp d8 => .memory (.zeroPage d8)
  | .incZpx d8 => .memory (.zeroPageX d8)
  | .incAbs a16 => .memory (.absolute a16)
  | .incAbx a16 => .memory (.absoluteX a16)
  | .decZp d8 => .memory (.zeroPage d8)
  | .decZpx d8 => .memory (.zeroPageX d8)
  | .decAbs a16 => .memory (.absolute a16)
  | .decAbx a16 => .memory (.absoluteX a16)
  | .aslZp d8 => .memory (.zeroPage d8)
  | .aslZpx d8 => .memory (.zeroPageX d8)
  | .aslAbs a16 => .memory (.absolute a16)
  | .aslAbx a16 => .memory (.absoluteX a16)
  | .lsrZp d8 => .memory (.zeroPage d8)
  | .lsrZpx d8 => .memory (.zeroPageX d8)
  | .lsrAbs a16 => .memory (.absolute a16)
  | .lsrAbx a16 => .memory (.absoluteX a16)
  | .rolZp d8 => .memory (.zeroPage d8)
  | .rolZpx d8 => .memory (.zeroPageX d8)
  | .rolAbs a16 => .memory (.absolute a16)
  | .rolAbx a16 => .memory (.absoluteX a16)
  | .rorZp d8 => .memory (.zeroPage d8)
  | .rorZpx d8 => .memory (.zeroPageX d8)
  | .rorAbs a16 => .memory (.absolute a16)
  | .rorAbx a16 => .memory (.absoluteX a16)
  | .jmpAbs a16 => .memory (.absolute a16)
  | .jmpInd a16 => .memory (.indirect a16)
  | .jsr a16 => .memory (.absolute a16)
  | .bcc d8 => .immediate d8
  | .bcs d8 => .immediate d8
  | .bne d8 => .immediate d8
  | .beq d8 => .immediate d8
  | .bpl d8 => .immediate d8
  | .bmi d8 => .immediate d8
  | .bvc d8 => .immediate d8
  | .bvs d8 => .immediate d8
  | .ill02 o => o
  | .ill03 o => o
  | .ill04 o => o
  | .ill07 o => o
  | .ill0B o => o
  | .ill0C o => o
  | .ill0F o => o
  | .ill12 o => o
  | .ill13 o => o
  | .ill14 o => o
  | .ill17 o => o
  | .ill1A o => o
  | .ill1B o => o
  | .ill1C o => o
  | .ill1F o => o
  | .ill22 o => o
  | .ill23 o => o
  | .ill27 o => o
  | .ill2B o => o
  | .ill2F o => o
  | .ill32 o => o
  | .ill33 o => o
  | .ill34 o => o
  | .ill37 o => o
  | .ill3A o => o
  | .ill3B o => o
  | .ill3C o => o
  | .ill3F o => o
  | .ill42 o => o
  | .ill43 o => o
  | .ill44 o => o
  | .ill47 o => o
  | .ill4B o => o
  | .ill4F o => o
  | .ill52 o => o
  | .ill53 o => o
  | .ill54 o => o
  | .ill57 o => o
  | .ill5A o => o
  | .ill5B o => o
  | .ill5C o => o
  | .ill5F o => o
  | .ill62 o => o
  | .ill63 o => o
  | .ill64 o => o
  | .ill67 o => o
  | .ill6B o => o
  | .ill6F o => o
  | .ill72 o => o
  | .ill73 o => o
  | .ill74 o => o
  | .ill77 o => o
  | .ill7A o => o
  | .ill7B o => o
  | .ill7C o => o
  | .ill7F o => o
  | .ill80 o => o
  | .ill82 o => o
  | .ill83 o => o
  | .ill87 o => o
  | .ill89 o => o
  | .ill8B o => o
  | .ill8F o => o
  | .ill92 o => o
  | .ill93 o => o
  | .ill97 o => o
  | .ill9B o => o
  | .ill9C o => o
  | .ill9E o => o
  | .ill9F o => o
  | .illA3 o => o
  | .illA7 o => o
  | .illAB o => o
  | .illAF o => o
  | .illB2 o => o
  | .illB3 o => o
  | .illB7 o => o
  | .illBB o => o
  | .illBF o => o
  | .illC2 o => o
  | .illC3 o => o
  | .illC7 o => o
  | .illCB o => o
  | .illCF o => o
  | .illD2 o => o
  | .illD3 o => o
  | .illD4 o => o
  | .illD7 o => o
  | .illDA o => o
  | .illDB o => o
  | .illDC o => o
  | .illDF o => o
  | .illE2 o => o
  | .illE3 o => o
  | .illE7 o => o
  | .illEB o => o
  | .illEF o => o
  | .illF2 o => o
  | .illF3 o => o
  | .illF4 o => o
  | .illF7 o => o
  | .illFA o => o
  | .illFB o => o
  | .illFC o => o
  | .illFF o => o
  | .tax => .implied
  | .tay => .implied
  | .txa => .implied
  | .tya => .implied
  | .tsx => .implied
  | .txs => .implied
  | .pha => .implied
  | .php => .implied
  | .pla => .implied
  | .plp => .implied
  | .inx => .implied
  | .dex => .implied
  | .iny => .implied
  | .dey => .implied
  | .aslA => .implied
  | .lsrA => .implied
  | .rolA => .implied
  | .rorA => .implied
  | .rts => .implied
  | .clc => .implied
  | .cld => .implied
  | .cli => .implied
  | .clv => .implied
  | .sec => .implied
  | .sed => .implied
  | .sei => .implied
  | .brk => .implied
  | .nop => .implied
  | .rti => .implied

/-- The handlers whose memory forms have `fetch = 1` (R85). Of the others only STA, STX, STY, JMP, JSR and the
no-op have memory forms. -/
def Handler.prefetches : Handler → Bool
  | .lda | .ldx | .ldy | .and | .ora | .eor | .bit | .adc | .sbc
  | .cmp | .cpx | .cpy | .inc | .dec | .asl | .lsr | .rol | .ror => true
  | .sta | .stx | .sty | .tax | .tay | .txa | .tya | .tsx | .txs | .pha | .php | .pla | .plp
  | .inx | .dex | .iny | .dey | .jmp | .jsr | .rts | .bcc | .bcs | .bne | .beq | .bpl | .bmi
  | .bvc | .bvs | .clc | .cld | .cli | .clv | .sec | .sed | .sei | .brk | .nop | .rti | .noOp => false

/-- The fetch-policy flag of an instruction: the operand is read from its effective address before the
handler runs (R85, R114). -/
def Instr.fetch (i : Instr) : Bool :=
  match i.operand with
  | .implied | .immediate _ => false
  | .memory _ => i.handler.prefetches

/-- The entry of the dispatch table for an instruction (R84). -/
structure Descriptor where
  handler : Handler
  mode : Mode
  fetch : Bool
  deriving DecidableEq, Repr

/-- The descriptor `(handler, mode, fetch)` of an instruction (R84). -/
def Instr.descriptor (i : Instr) : Descriptor := ⟨i.handler, i.operand.mode, i.fetch⟩

end Sys2Proof
end

