-- ==== Sys2Proof/WellFormed.lean ====
section
/-! DEFINITION. Which instructions an instance of CORE can decode. -/

namespace Sys2Proof

/-- Every operand value of a documented instruction is legal (30_encoding.md R91). The operand of an
unassigned opcode is one of the mode that ILLEGAL_MODE gives that opcode (R90). -/
def Instr.wf (m : IllegalModes) (i : Instr) : Bool :=
  match i.handler with
  | .noOp => i.operand.mode == m.modeOf i.opcode
  | _ => true

end Sys2Proof
end

