-- ==== Sys2Proof/Decode.lean ====
section
/-! DEFINITION. From bytes to instructions and back (30_encoding.md R80 to R91): the opcode matrix, the
decoder, the encoder, and the host's entry `decodeTableWord`. -/

namespace Sys2Proof

/-- What an opcode byte selects: an instruction of format F1, F2 or F3 (R81) waiting for its operand bytes, or
an unassigned opcode waiting for the operand of the mode ILLEGAL_MODE gives it (R90). -/
inductive Form where
  | f1 (i : Instr)
  | f2 (mk : Byte → Instr)
  | f3 (mk : Word → Instr)
  | unassigned (mk : Operand → Instr)

/-- Row 0x of the opcode matrix (R86). -/
def opcodeRow0 : List Form :=
  [.f1 .brk, .f2 .oraIzx, .unassigned .ill02, .unassigned .ill03,
   .unassigned .ill04, .f2 .oraZp, .f2 .aslZp, .unassigned .ill07,
   .f1 .php, .f2 .oraImm, .f1 .aslA, .unassigned .ill0B,
   .unassigned .ill0C, .f3 .oraAbs, .f3 .aslAbs, .unassigned .ill0F]

/-- Row 1x of the opcode matrix (R86). -/
def opcodeRow1 : List Form :=
  [.f2 .bpl, .f2 .oraIzy, .unassigned .ill12, .unassigned .ill13,
   .unassigned .ill14, .f2 .oraZpx, .f2 .aslZpx, .unassigned .ill17,
   .f1 .clc, .f3 .oraAby, .unassigned .ill1A, .unassigned .ill1B,
   .unassigned .ill1C, .f3 .oraAbx, .f3 .aslAbx, .unassigned .ill1F]

/-- Row 2x of the opcode matrix (R86). -/
def opcodeRow2 : List Form :=
  [.f3 .jsr, .f2 .andIzx, .unassigned .ill22, .unassigned .ill23,
   .f2 .bitZp, .f2 .andZp, .f2 .rolZp, .unassigned .ill27,
   .f1 .plp, .f2 .andImm, .f1 .rolA, .unassigned .ill2B,
   .f3 .bitAbs, .f3 .andAbs, .f3 .rolAbs, .unassigned .ill2F]

/-- Row 3x of the opcode matrix (R86). -/
def opcodeRow3 : List Form :=
  [.f2 .bmi, .f2 .andIzy, .unassigned .ill32, .unassigned .ill33,
   .unassigned .ill34, .f2 .andZpx, .f2 .rolZpx, .unassigned .ill37,
   .f1 .sec, .f3 .andAby, .unassigned .ill3A, .unassigned .ill3B,
   .unassigned .ill3C, .f3 .andAbx, .f3 .rolAbx, .unassigned .ill3F]

/-- Row 4x of the opcode matrix (R86). -/
def opcodeRow4 : List Form :=
  [.f1 .rti, .f2 .eorIzx, .unassigned .ill42, .unassigned .ill43,
   .unassigned .ill44, .f2 .eorZp, .f2 .lsrZp, .unassigned .ill47,
   .f1 .pha, .f2 .eorImm, .f1 .lsrA, .unassigned .ill4B,
   .f3 .jmpAbs, .f3 .eorAbs, .f3 .lsrAbs, .unassigned .ill4F]

/-- Row 5x of the opcode matrix (R86). -/
def opcodeRow5 : List Form :=
  [.f2 .bvc, .f2 .eorIzy, .unassigned .ill52, .unassigned .ill53,
   .unassigned .ill54, .f2 .eorZpx, .f2 .lsrZpx, .unassigned .ill57,
   .f1 .cli, .f3 .eorAby, .unassigned .ill5A, .unassigned .ill5B,
   .unassigned .ill5C, .f3 .eorAbx, .f3 .lsrAbx, .unassigned .ill5F]

/-- Row 6x of the opcode matrix (R86). -/
def opcodeRow6 : List Form :=
  [.f1 .rts, .f2 .adcIzx, .unassigned .ill62, .unassigned .ill63,
   .unassigned .ill64, .f2 .adcZp, .f2 .rorZp, .unassigned .ill67,
   .f1 .pla, .f2 .adcImm, .f1 .rorA, .unassigned .ill6B,
   .f3 .jmpInd, .f3 .adcAbs, .f3 .rorAbs, .unassigned .ill6F]

/-- Row 7x of the opcode matrix (R86). -/
def opcodeRow7 : List Form :=
  [.f2 .bvs, .f2 .adcIzy, .unassigned .ill72, .unassigned .ill73,
   .unassigned .ill74, .f2 .adcZpx, .f2 .rorZpx, .unassigned .ill77,
   .f1 .sei, .f3 .adcAby, .unassigned .ill7A, .unassigned .ill7B,
   .unassigned .ill7C, .f3 .adcAbx, .f3 .rorAbx, .unassigned .ill7F]

/-- Row 8x of the opcode matrix (R86). -/
def opcodeRow8 : List Form :=
  [.unassigned .ill80, .f2 .staIzx, .unassigned .ill82, .unassigned .ill83,
   .f2 .styZp, .f2 .staZp, .f2 .stxZp, .unassigned .ill87,
   .f1 .dey, .unassigned .ill89, .f1 .txa, .unassigned .ill8B,
   .f3 .styAbs, .f3 .staAbs, .f3 .stxAbs, .unassigned .ill8F]

/-- Row 9x of the opcode matrix (R86). -/
def opcodeRow9 : List Form :=
  [.f2 .bcc, .f2 .staIzy, .unassigned .ill92, .unassigned .ill93,
   .f2 .styZpx, .f2 .staZpx, .f2 .stxZpy, .unassigned .ill97,
   .f1 .tya, .f3 .staAby, .f1 .txs, .unassigned .ill9B,
   .unassigned .ill9C, .f3 .staAbx, .unassigned .ill9E, .unassigned .ill9F]

/-- Row Ax of the opcode matrix (R86). -/
def opcodeRowA : List Form :=
  [.f2 .ldyImm, .f2 .ldaIzx, .f2 .ldxImm, .unassigned .illA3,
   .f2 .ldyZp, .f2 .ldaZp, .f2 .ldxZp, .unassigned .illA7,
   .f1 .tay, .f2 .ldaImm, .f1 .tax, .unassigned .illAB,
   .f3 .ldyAbs, .f3 .ldaAbs, .f3 .ldxAbs, .unassigned .illAF]

/-- Row Bx of the opcode matrix (R86). -/
def opcodeRowB : List Form :=
  [.f2 .bcs, .f2 .ldaIzy, .unassigned .illB2, .unassigned .illB3,
   .f2 .ldyZpx, .f2 .ldaZpx, .f2 .ldxZpy, .unassigned .illB7,
   .f1 .clv, .f3 .ldaAby, .f1 .tsx, .unassigned .illBB,
   .f3 .ldyAbx, .f3 .ldaAbx, .f3 .ldxAby, .unassigned .illBF]

/-- Row Cx of the opcode matrix (R86). -/
def opcodeRowC : List Form :=
  [.f2 .cpyImm, .f2 .cmpIzx, .unassigned .illC2, .unassigned .illC3,
   .f2 .cpyZp, .f2 .cmpZp, .f2 .decZp, .unassigned .illC7,
   .f1 .iny, .f2 .cmpImm, .f1 .dex, .unassigned .illCB,
   .f3 .cpyAbs, .f3 .cmpAbs, .f3 .decAbs, .unassigned .illCF]

/-- Row Dx of the opcode matrix (R86). -/
def opcodeRowD : List Form :=
  [.f2 .bne, .f2 .cmpIzy, .unassigned .illD2, .unassigned .illD3,
   .unassigned .illD4, .f2 .cmpZpx, .f2 .decZpx, .unassigned .illD7,
   .f1 .cld, .f3 .cmpAby, .unassigned .illDA, .unassigned .illDB,
   .unassigned .illDC, .f3 .cmpAbx, .f3 .decAbx, .unassigned .illDF]

/-- Row Ex of the opcode matrix (R86). -/
def opcodeRowE : List Form :=
  [.f2 .cpxImm, .f2 .sbcIzx, .unassigned .illE2, .unassigned .illE3,
   .f2 .cpxZp, .f2 .sbcZp, .f2 .incZp, .unassigned .illE7,
   .f1 .inx, .f2 .sbcImm, .f1 .nop, .unassigned .illEB,
   .f3 .cpxAbs, .f3 .sbcAbs, .f3 .incAbs, .unassigned .illEF]

/-- Row Fx of the opcode matrix (R86). -/
def opcodeRowF : List Form :=
  [.f2 .beq, .f2 .sbcIzy, .unassigned .illF2, .unassigned .illF3,
   .unassigned .illF4, .f2 .sbcZpx, .f2 .incZpx, .unassigned .illF7,
   .f1 .sed, .f3 .sbcAby, .unassigned .illFA, .unassigned .illFB,
   .unassigned .illFC, .f3 .sbcAbx, .f3 .incAbx, .unassigned .illFF]

/-- The opcode matrix, row = high nibble, column = low nibble of the opcode byte (R86). -/
def opcodeMatrix : List (List Form) :=
  [opcodeRow0, opcodeRow1, opcodeRow2, opcodeRow3, opcodeRow4, opcodeRow5, opcodeRow6, opcodeRow7,
   opcodeRow8, opcodeRow9, opcodeRowA, opcodeRowB, opcodeRowC, opcodeRowD, opcodeRowE, opcodeRowF]

/-- The entry of the opcode matrix for an opcode byte. The matrix has 16 rows of 16, so neither default is
used (R83). -/
def opcodeForm (opcode : Byte) : Form :=
  (opcodeMatrix.getD (opcode.toNat / 16) []).getD (opcode.toNat % 16) (.f1 .nop)

/-- The number of operand bytes after an opcode byte (R80): of its format (R81), or of the mode ILLEGAL_MODE
gives it. -/
def operandCount (m : IllegalModes) (opcode : Byte) : Nat :=
  match opcodeForm opcode with
  | .f1 _ => 0
  | .f2 _ => 1
  | .f3 _ => 2
  | .unassigned _ => (m.modeOf opcode).operandBytes

/-- The operand of a mode, from the bytes after the opcode; `{byte 2, byte 1}` is its word (R82). -/
def Operand.ofMode (m : Mode) (b1 b2 : Byte) : Operand :=
  match m with
  | .implied => .implied
  | .immediate => .immediate b1
  | .zeroPage => .memory (.zeroPage b1)
  | .zeroPageX => .memory (.zeroPageX b1)
  | .zeroPageY => .memory (.zeroPageY b1)
  | .absolute => .memory (.absolute (wordOf b2 b1))
  | .absoluteX => .memory (.absoluteX (wordOf b2 b1))
  | .absoluteY => .memory (.absoluteY (wordOf b2 b1))
  | .indirect => .memory (.indirect (wordOf b2 b1))
  | .indirectX => .memory (.indirectX b1)
  | .indirectY => .memory (.indirectY b1)

/-- The instruction of an opcode byte and the operand bytes that follow it (R80 to R82). Bytes past its own
operand are not looked at. -/
def assemble (m : IllegalModes) (opcode : Byte) (operand : List Byte) : Instr :=
  match opcodeForm opcode with
  | .f1 i => i
  | .f2 mk => mk (operand.getD 0 0)
  | .f3 mk => mk (wordOf (operand.getD 1 0) (operand.getD 0 0))
  | .unassigned mk => mk (Operand.ofMode (m.modeOf opcode) (operand.getD 0 0) (operand.getD 1 0))

/-- Why a byte sequence is no instruction. Every opcode byte is one (R83), so only the end of the bytes
can be wrong. -/
inductive Rejection where
  /-- the bytes end before the instruction does -/
  | truncated
  deriving DecidableEq, Repr

/-- What the decoder makes of a byte sequence. -/
inductive Decoded where
  | instr (i : Instr) (rest : List Byte)
  | rejected (r : Rejection)
  deriving DecidableEq, Repr

/-- The decoder: the instruction at the front of a byte sequence, and the bytes after it. -/
def decode (m : IllegalModes) (bytes : List Byte) : Decoded :=
  match bytes with
  | [] => .rejected .truncated
  | opcode :: operand =>
    if operand.length < operandCount m opcode then .rejected .truncated
    else .instr (assemble m opcode operand) (operand.drop (operandCount m opcode))

/-- The encoder: the bytes of an instruction in increasing address order (R81). -/
def encode (i : Instr) : List Byte := i.opcode :: i.operand.bytes

/-- Byte `k` of a number whose bit 0 is the least significant bit of the byte at the lowest address. -/
def tableByte (w k : Nat) : Byte := BitVec.ofNat 8 (w / 2 ^ (8 * k))

/-- The instruction the decoder reads from a row of spec/opcode_table.json whose `nbits` bits are `w`, the
bits above being 0. Three bytes are always there, so the decoder never rejects; this is the function
the machine's fetch uses. -/
def decodeTableWord (nbits w : Nat) : Option Instr :=
  some (assemble Config.atReset.illegalModes (tableByte (w % 2 ^ nbits) 0)
    [tableByte (w % 2 ^ nbits) 1, tableByte (w % 2 ^ nbits) 2])

end Sys2Proof
end

