-- ==== Sys2Proof/Machine/Fetch.lean ====
section
/-! DEFINITION. Fetching an instruction's bytes at PC (40_step_and_addressing.md R100, 20_memory.md R57). -/

namespace Sys2Proof.Machine

/-- Reads the byte at PC and increments PC, modulo 65 536 (R100, 10_state.md R24). -/
def State.fetchByte (s : State) : Byte × State :=
  let byte := s.memRead s.pc
  (byte.1, byte.2.setPc (s.pc + 1))

/-- Reads `k` operand bytes at PC in increasing address order (R57). -/
def State.fetchBytes (s : State) (k : Nat) : List Byte × State :=
  match k with
  | 0 => ([], s)
  | k + 1 =>
    let byte := s.fetchByte
    let rest := byte.2.fetchBytes k
    (byte.1 :: rest.1, rest.2)

/-- The instruction at PC, and the state with PC past its operand bytes (10_state.md R25): the opcode byte is read,
then the operand bytes its mode calls for, low byte first (R100, R101). -/
def State.fetch (s : State) : Instr × State :=
  let opcode := s.fetchByte
  let operand := opcode.2.fetchBytes (operandCount s.config.illegalModes opcode.1)
  (assemble s.config.illegalModes opcode.1 operand.1, operand.2)

end Sys2Proof.Machine
end

