-- ==== Sys2Proof/Machine/Step.lean ====
section
/-! DEFINITION. One transition of the machine, and how the host places an instruction. -/

namespace Sys2Proof.Machine

/-- One transition: the one the environment asks for next, `step` when it asks for none (00_scope.md R6, R7, R12).
`step` runs the instruction at PC (40_step_and_addressing.md R100). Before the first `reset` only `reset` has a
meaning (10_state.md R45, 70_reset_and_hazards.md R276). -/
def step (s : State) : Host.Outcome State Fault Refusal :=
  match s.nextRequest, s.resetDone with
  | .reset, _ => .next s.beginTransition.performReset
  | .interrupt, true => .next s.beginTransition.interrupt
  | .nmi, true => .next s.beginTransition.nmi
  | .step, true => exec s.beginTransition.fetch.1 s.beginTransition.fetch.2
  | .interrupt, false => .refused .beforeReset
  | .nmi, false => .refused .beforeReset
  | .step, false => .refused .beforeReset

/-- Gives an address a byte from outside the machine, so that a read of it returns that byte: an address a device would
answer gets RAM behind it (notes/assumptions/9.md). -/
def State.place (s : State) (addr : Word) (v : Byte) : State :=
  match s.config.bus.backingOf addr with
  | .ram => s.poke addr v
  | .rom => s.poke addr v
  | .device => { s.poke addr v with config := { s.config with bus := s.config.bus.withRamAt addr } }

/-- `s` with the instruction whose `nbits` bits are `w` placed at PC, its first byte at PC and the bits above 0,
and with `step` the transition asked for next, so that the next step runs it (notes/assumptions/9.md). -/
def State.withFetchWord (s : State) (nbits w : Nat) : State :=
  let placed := ((s.place s.pc (tableByte (w % 2 ^ nbits) 0)).place (s.pc + 1)
    (tableByte (w % 2 ^ nbits) 1)).place (s.pc + 2) (tableByte (w % 2 ^ nbits) 2)
  { placed with requests := .step :: s.requests, resetDone := true }

end Sys2Proof.Machine
end

