-- ==== Sys2Proof/Safety.lean ====
section
/-! DEFINITION. The terms claims about runs use: the invariant of the machine, the states it reaches, and the end of
a run. -/

namespace Sys2Proof.Machine

/-- What holds between transitions: the first `reset` has been invoked, memory is in its canonical form, and the
unused bit of the status is 1 (10_state.md R32). -/
def State.Inv (s : State) : Prop := s.resetDone = true ∧ s.mem.wf ∧ s.p.u = true

/-- The stack page behaves as memory that keeps what is stored: what the environment owes a program before its first
push (20_memory.md R61, 70_reset_and_hazards.md R274). -/
def State.StackIsRam (s : State) : Prop := ∀ sp : Byte, s.config.bus.backingOf (stackAddr sp) = .ram

/-- One transition that ends in a next state. -/
def Steps (s t : State) : Prop := step s = .next t

/-- `t` is reached from `s` by some number of transitions. -/
inductive Reaches (s : State) : State → Prop where
  | refl : Reaches s s
  | tail {t u : State} : Reaches s t → Steps t u → Reaches s u

/-- The end of a run by the spec's convention (70_reset_and_hazards.md R279): a `step` that leaves PC unchanged. CORE
itself has no halted state and would go on. -/
def EndsRun (s : State) : Prop := s.nextRequest = .step ∧ ∃ t, Steps s t ∧ t.pc = s.pc

/-- A run is safe from `s` when no state it reaches is refused a transition. -/
def SafeFrom (s : State) : Prop := ∀ t, Reaches s t → ∃ u, Steps t u

end Sys2Proof.Machine
end

