-- ==== Sys2Proof/Certificates/Slice0/Obligations.lean ====
section
/-! DEFINITION. The statements for the provers. `Claims` holds the words they are written in. In a statement about
`exec`, the state `s` is the one the handler sees: PC is the address after the operand (10_state.md R25). The
instruction bytes in the clauses are those of 30_encoding.md R88. -/

namespace Sys2Proof.Claims

open Machine

/-- `i` run in `s` answers a next state, which is `t` but for the model's own record of bus transactions and count of
device reads (notes/assumptions/1.md, 8.md): BusTransactionsOfStep and BusEventsExplainMemory say what those are. -/
def Answers (i : Instr) (s t : State) : Prop := ∃ bus n, exec i s = .next { t with bus := bus, deviceReads := n }

/-- `SetZN(v)` (10_state.md R36): Z is whether `v` is 0, N is bit 7 of `v`. -/
def withZN (p : Status) (v : Byte) : Status := { p with z := decide (v = 0), n := v.getLsbD 7 }

/-- From `s` to `t` memory holds `v` at `addr`, where RAM stands behind it, and at every other address what it held
before: a ROM or a device keeps nothing in memory (20_memory.md R51, R52). -/
def WritesByte (s t : State) (addr : Word) (v : Byte) : Prop :=
  ∀ b, t.byteAt b = if b = addr ∧ s.config.bus.backingOf addr = .ram then v else s.byteAt b

/-- The pointer addresses a resolver reads past the operand bytes, low byte first (40_step_and_addressing.md R110 to
R112): none but in the indirect modes. -/
def pointerAddrs (s : State) : MemOperand → List Word
  | .indirect a16 => [a16, samePageNext a16]
  | .indirectX d8 => [zext16 (d8 + s.x), zext16 (d8 + s.x + 1)]
  | .indirectY d8 => [zext16 d8, zext16 (d8 + 1)]
  | _ => []

/-- From `s` to `t` the bus transactions are the reads of `reads`, with what the environment answered, and then one
`MemWrite(addr, 1, v)` (20_memory.md R50, R51): the environment is presented with `v` whatever stands behind `addr`,
and memory changes as `WritesByte` says. -/
def ReadsThenWrites (s t : State) (reads : List Word) (addr : Word) (v : Byte) : Prop :=
  t.bus = s.bus ++ List.zipWith .read reads (s.answers reads) ++ [.write addr v] ∧
  t.deviceReads = (s.afterReads reads).deviceReads ∧ WritesByte s t addr v

/-- From `s` to `t` the bytes of the list have been written in its order, each as `WritesByte` says: the latest write of
an address counts. -/
def WritesBytes (s t : State) (writes : List (Word × Byte)) : Prop :=
  ∀ b, t.byteAt b = if s.config.bus.backingOf b = .ram then (writes.reverse.lookup b).getD (s.byteAt b) else s.byteAt b

/-- `v` is `{P.N, P.V, 1, b, P.D, P.I, P.Z, P.C}` (10_state.md R37). -/
def IsPacked (v : Byte) (b : Bool) (p : Status) : Prop :=
  v.getLsbD 7 = p.n ∧ v.getLsbD 6 = p.v ∧ v.getLsbD 5 = true ∧ v.getLsbD 4 = b ∧
  v.getLsbD 3 = p.d ∧ v.getLsbD 2 = p.i ∧ v.getLsbD 1 = p.z ∧ v.getLsbD 0 = p.c

/-- The flags of a pulled byte: bits 4 and 5 are ignored, B is 0 and U is 1 (10_state.md R38). -/
def unpacked (v : Byte) : Status where
  n := v.getLsbD 7
  v := v.getLsbD 6
  u := true
  b := false
  d := v.getLsbD 3
  i := v.getLsbD 2
  z := v.getLsbD 1
  c := v.getLsbD 0

/-- From `s` to `t` the entry sequence of 60_exceptions.md R242 has run for the vector `vec`, which is not in the
stack page: three bytes on the stack, PC from the two bytes the environment answers at the vector, P.I set, the five bus
transactions in order, and nothing else. -/
def Entered (s t : State) (ret : Word) (b : Bool) (vec : Word) : Prop :=
  ∃ status lo hi, IsPacked status b s.p ∧ s.answers [vec, vec + 1] = [lo, hi] ∧
    WritesBytes s t [(stackAddr s.sp, hiByte ret), (stackAddr (s.sp - 1), loByte ret), (stackAddr (s.sp - 2), status)] ∧
    t = { s with
      sp := s.sp - 3
      pc := wordOf hi lo
      p := { s.p with i := true }
      mem := t.mem
      deviceReads := (s.afterReads [vec, vec + 1]).deviceReads
      bus := s.bus ++ [.write (stackAddr s.sp) (hiByte ret), .write (stackAddr (s.sp - 1)) (loByte ret),
        .write (stackAddr (s.sp - 2)) status, .read vec lo, .read (vec + 1) hi] }

/-- The three bytes the environment answers at PC, the longest instruction (30_encoding.md R80), to reads in increasing
address order. -/
def window (s : State) : List Byte := s.answers [s.pc, s.pc + 1, s.pc + 2]

/-- The addresses `pc`, `pc + 1`, ... of the bytes of an instruction. -/
def instrAddrs (s : State) (i : Instr) : List Word :=
  (List.range (encode i).length).map fun k => s.pc + BitVec.ofNat 16 k

/-- The state the handler of `i` starts in, when `step` is the transition asked for in `s` and `i` is the instruction
at PC: PC past the instruction, and the fetch reads in the record of bus transactions and in the count of device
reads. -/
def fetched (s : State) (i : Instr) : State :=
  { s with
    pc := s.pc + BitVec.ofNat 16 (encode i).length
    requests := s.requests.tail
    bus := List.zipWith .read (instrAddrs s i) (s.answers (instrAddrs s i))
    deviceReads := (s.afterReads (instrAddrs s i)).deviceReads }

/-- In `u`, past the operand bytes, the resolver of `m` reads the pointer addresses `l` and nothing else, its effective
address is `ea`, and an operand fetch returns what the environment answers at it after those reads
(40_step_and_addressing.md R110 to R112, R114). -/
def ReadsThroughPointer (u : State) (m : MemOperand) (l : List Word) (ea : Nat) : Prop :=
  (u.effectiveAddress m).toNat = ea ∧ u.resolveOnly (.memory m) = u.afterReads l ∧
  u.fetchOperand (.memory m) =
    ((u.afterReads l).answerAt (u.effectiveAddress m), (u.afterReads l).afterReads [u.effectiveAddress m])

/-- A load (41_load_store_transfer.md R130 to R132): the operand goes to the register `set` writes, with SetZN. -/
def LoadsTo (set : State → Byte → State) (i : Instr) (bytes : List Byte) (o : Operand) : Prop :=
  encode i = bytes ∧
  ∀ s, Answers i s { set s (s.operandValue o) with p := withZN s.p (s.operandValue o) }

/-- A store (R133 to R135): past the pointer reads, one write presents the register at the effective address, which is
not read, and nothing else changes. -/
def Stores (reg : State → Byte) (i : Instr) (bytes : List Byte) (m : MemOperand) : Prop :=
  encode i = bytes ∧
  ∀ s, ∃ t, exec i s = .next t ∧ ReadsThenWrites s t (pointerAddrs s m) (s.effectiveAddress m) (reg s) ∧
    t = { s with mem := t.mem, bus := t.bus, deviceReads := t.deviceReads }

/-- A logic instruction (43_logic_arith_compare.md R160 to R162). -/
def Combines (f : Byte → Byte → Byte) (i : Instr) (bytes : List Byte) (o : Operand) : Prop :=
  encode i = bytes ∧
  ∀ s, Answers i s { s with a := f s.a (s.operandValue o), p := withZN s.p (f s.a (s.operandValue o)) }

/-- BIT (R163). -/
def TestsBits (i : Instr) (bytes : List Byte) (o : Operand) : Prop :=
  encode i = bytes ∧
  ∀ s, Answers i s { s with p := { s.p with
    z := decide (s.a &&& s.operandValue o = 0)
    v := (s.operandValue o).getLsbD 6
    n := (s.operandValue o).getLsbD 7 } }

/-- ADC (R164): the sum is taken in the natural numbers, V by the rule's formula, which is true exactly when the sum
of the signed values is outside -128 to 127. -/
def Adds (i : Instr) (bytes : List Byte) (o : Operand) : Prop :=
  encode i = bytes ∧
  ∀ s, ∀ m, m = s.operandValue o → ∀ sum, sum = s.a.toNat + m.toNat + s.p.c.toNat →
    ∀ r, r = BitVec.ofNat 8 sum →
    Answers i s { s with
      a := r
      p := { withZN s.p r with c := decide (255 < sum), v := ((s.a ^^^ r) &&& (m ^^^ r) &&& 0x80) != 0 } } ∧
    ((((s.a ^^^ r) &&& (m ^^^ r) &&& 0x80) != 0) = true ↔
      s.a.toInt + m.toInt + s.p.c.toNat < -128 ∨ 127 < s.a.toInt + m.toInt + s.p.c.toNat)

/-- SBC (R165): the difference less the borrow `1 - C` is taken in the integers, C is set when it is not negative, V
by the formula applied to the complemented operand, which is true exactly when the difference of the signed values is
outside -128 to 127. -/
def Subtracts (i : Instr) (bytes : List Byte) (o : Operand) : Prop :=
  encode i = bytes ∧
  ∀ s, ∀ m, m = s.operandValue o →
    ∀ diff : Int, diff = (s.a.toNat : Int) - m.toNat - (1 - s.p.c.toNat) → ∀ r, r = BitVec.ofInt 8 diff →
    Answers i s { s with
      a := r
      p := { withZN s.p r with
        c := decide (0 ≤ diff), v := ((s.a ^^^ r) &&& ((m ^^^ 0xFF) ^^^ r) &&& 0x80) != 0 } } ∧
    ((((s.a ^^^ r) &&& ((m ^^^ 0xFF) ^^^ r) &&& 0x80) != 0) = true ↔
      s.a.toInt - m.toInt - (1 - (s.p.c.toNat : Int)) < -128 ∨
        127 < s.a.toInt - m.toInt - (1 - (s.p.c.toNat : Int)))

/-- A compare (R166 to R168): C is the unsigned comparison, Z is equality, N is bit 7 of the difference. -/
def Compares (reg : State → Byte) (i : Instr) (bytes : List Byte) (o : Operand) : Prop :=
  encode i = bytes ∧
  ∀ s, Answers i s { s with p := { s.p with
    c := decide ((s.operandValue o).toNat ≤ (reg s).toNat)
    z := decide (reg s = s.operandValue o)
    n := decide (128 ≤ ((reg s).toNat + 256 - (s.operandValue o).toNat) % 256) } }

/-- INC and DEC (44_incdec_shift.md R180, R181): one read of the effective address, and one write that presents `f` of
the operand there. -/
def Modifies (f : Byte → Byte) (i : Instr) (bytes : List Byte) (m : MemOperand) : Prop :=
  encode i = bytes ∧
  ∀ s, ∃ t, exec i s = .next t ∧
    ReadsThenWrites s t (pointerAddrs s m ++ [s.effectiveAddress m]) (s.effectiveAddress m)
      (f (s.operandValue (.memory m))) ∧
    t = { s with
      p := withZN s.p (f (s.operandValue (.memory m)))
      mem := t.mem
      bus := t.bus
      deviceReads := t.deviceReads }

/-- The accumulator form of a shift (R186 to R189): `value` is the result from the old carry and the operand, `out`
the bit that goes to the carry. -/
def ShiftsA (value : Bool → Byte → Byte) (out : Byte → Bool) (i : Instr) (bytes : List Byte) : Prop :=
  encode i = bytes ∧
  ∀ s, Answers i s { s with
    a := value s.p.c s.a
    p := { withZN s.p (value s.p.c s.a) with c := out s.a } }

/-- A memory form of a shift (R186 to R190): one read of the effective address, and one write that presents the result
there. -/
def ShiftsMemory (value : Bool → Byte → Byte) (out : Byte → Bool) (i : Instr) (bytes : List Byte) (m : MemOperand) :
    Prop :=
  encode i = bytes ∧
  ∀ s, ∀ old, old = s.operandValue (.memory m) → ∃ t, exec i s = .next t ∧
    ReadsThenWrites s t (pointerAddrs s m ++ [s.effectiveAddress m]) (s.effectiveAddress m) (value s.p.c old) ∧
    t = { s with
      p := { withZN s.p (value s.p.c old) with c := out old }
      mem := t.mem
      bus := t.bus
      deviceReads := t.deviceReads }

/-- A branch (45_control_transfer.md R205): the displacement is signed, and the sum is modulo 65 536. -/
def Branches (cond : Status → Bool) (i : Instr) (bytes : List Byte) (d8 : Byte) : Prop :=
  encode i = bytes ∧
  ∀ s, Answers i s
    (if cond s.p then { s with pc := BitVec.ofInt 16 ((s.pc.toNat : Int) + d8.toInt) } else s)

/-- A one-byte instruction that writes flags only (46_flags_system.md R220 to R226). -/
def SetsFlags (f : Status → Status) (i : Instr) (bytes : List Byte) : Prop :=
  encode i = bytes ∧ ∀ s, Answers i s { s with p := f s.p }

/-- An unassigned opcode (R231): its bytes, and no change but the resolver's own bus reads. -/
def NoOps (i : Instr) (bytes : List Byte) : Prop := encode i = bytes ∧ ∀ s, Answers i s s

/-- A bus transaction without its value. -/
inductive Access where
  | read (addr : Word)
  | write (addr : Word)
  deriving DecidableEq, Repr

/-- The transaction of a bus event. -/
def access : BusEvent → Access
  | .read addr _ => .read addr
  | .write addr _ => .write addr

/-- Stage 2 of 40_step_and_addressing.md R119 past the operand bytes: the pointer reads. -/
def resolverAccesses (s : State) : Operand → List Access
  | .memory m => (pointerAddrs s m).map .read
  | _ => []

/-- Stage 3 of R119: the operand fetch. The handlers named are those whose memory forms have `fetch = 1`
(30_encoding.md R85); the stores, JMP, JSR and the unassigned opcodes make none. -/
def operandAccesses (s : State) (i : Instr) : List Access :=
  match i.handler with
  | .lda | .ldx | .ldy | .and | .ora | .eor | .bit | .adc | .sbc | .cmp | .cpx | .cpy | .inc | .dec
  | .asl | .lsr | .rol | .ror =>
    match i.operand with
    | .memory m => [.read (s.effectiveAddress m)]
    | _ => []
  | _ => []

/-- The addresses a handler writes, in order (stage 4 of R119). -/
def storeAddrs (s : State) (i : Instr) : List Word :=
  match i.handler with
  | .sta | .stx | .sty | .inc | .dec | .asl | .lsr | .rol | .ror =>
    match i.operand with
    | .memory m => [s.effectiveAddress m]
    | _ => []
  | .pha | .php => [stackAddr s.sp]
  | .jsr => [stackAddr s.sp, stackAddr (s.sp - 1)]
  | .brk => [stackAddr s.sp, stackAddr (s.sp - 1), stackAddr (s.sp - 2)]
  | _ => []

/-- The addresses a handler reads, in order, after its writes (stage 4 of R119). -/
def loadAddrs (s : State) (i : Instr) : List Word :=
  match i.handler with
  | .pla | .plp => [stackAddr (s.sp + 1)]
  | .rts => [stackAddr (s.sp + 1), stackAddr (s.sp + 2)]
  | .rti => [stackAddr (s.sp + 1), stackAddr (s.sp + 2), stackAddr (s.sp + 3)]
  | .brk => [0xFFFE, 0xFFFF]
  | _ => []

/-- Running bus events in order under BUS `b`, over memory contents `f` and after `n` device reads: every read of RAM or
ROM returned the byte memory then held, every read of a device the answer BUS lists for that device read (or the free
value where it lists none), every write was kept where RAM stands behind its address, and the run leaves the contents `g`
and the count `k` of device reads. -/
def InOrder (b : Bus) (f : Word → Byte) (n : Nat) : List BusEvent → (Word → Byte) → Nat → Prop
  | [], g, k => (∀ a, g a = f a) ∧ k = n
  | .read a v :: es, g, k =>
    if b.backingOf a = .device then v = (b.answers[n]?).getD (freeAnswer n) ∧ InOrder b f (n + 1) es g k
    else v = f a ∧ InOrder b f n es g k
  | .write a v :: es, g, k =>
    InOrder b (fun c => if c = a ∧ b.backingOf a = .ram then v else f c) n es g k

/-- `s` with other stored B and U bits. -/
def withBU (s : State) (b u : Bool) : State := { s with p := { s.p with b := b, u := u } }

/-- `s` with another decimal flag. -/
def withD (s : State) (d : Bool) : State := { s with p := { s.p with d := d } }

/-- `k` runs of one instruction. -/
def execTimes (i : Instr) : Nat → State → Outcome
  | 0, s => .next s
  | k + 1, s =>
    match exec i s with
    | .next t => execTimes i k t
    | .fault r => .fault r
    | .refused r => .refused r

end Sys2Proof.Claims

section

open Sys2Proof Sys2Proof.Machine Sys2Proof.Claims

/-- For every ILLEGAL_MODE m, every instruction i that is well formed under m, and every bytes after it, decoding encode i followed by those bytes gives i and those bytes. The spec's own choice, no rule of its source (92_eei_decisions.md): the opcode bytes (D1). -/
def Obligations.DecodeOfEncode : Prop :=
  ∀ (m : IllegalModes) (i : Instr) (rest : List Byte), i.wf m = true → decode m (encode i ++ rest) = .instr i rest

/-- If bytes decode to an instruction i with some bytes left, then encode i followed by the bytes left is the sequence that was decoded, and i is well formed. The spec's own choice, no rule of its source (92_eei_decisions.md): the opcode bytes (D1). -/
def Obligations.EncodeOfDecode : Prop :=
  ∀ (m : IllegalModes) (bytes : List Byte) (i : Instr) (rest : List Byte), decode m bytes = .instr i rest →
    encode i ++ rest = bytes ∧ i.wf m = true

/-- Twelve instructions, one or more of every family, decode from the bytes 30_encoding.md gives them, and the unassigned byte 0x02 decodes, with the bytes after it, to the operand of the mode ILLEGAL_MODE gives it: none, one byte, or a little-endian word. The spec's own choices, no rule of its source (92_eei_decisions.md): the opcode bytes (D1); the modes of the unassigned opcodes (D2). -/
def Obligations.DecodeSampleWords : Prop :=
  ∀ m : IllegalModes,
    decode m [0xA9, 0x05] = .instr (.ldaImm 0x05) [] ∧
    decode m [0x8D, 0x00, 0x02] = .instr (.staAbs 0x0200) [] ∧
    decode m [0x00] = .instr .brk [] ∧
    decode m [0x6C, 0xFF, 0x30] = .instr (.jmpInd 0x30FF) [] ∧
    decode m [0xD0, 0xF9] = .instr (.bne 0xF9) [] ∧
    decode m [0x0A] = .instr .aslA [] ∧
    decode m [0xB6, 0x10] = .instr (.ldxZpy 0x10) [] ∧
    decode m [0xB1, 0x20] = .instr (.ldaIzy 0x20) [] ∧
    decode m [0x68] = .instr .pla [] ∧
    decode m [0xED, 0x34, 0x12] = .instr (.sbcAbs 0x1234) [] ∧
    decode m [0xFE, 0x00, 0x03] = .instr (.incAbx 0x0300) [] ∧
    decode m [0xF8] = .instr .sed [] ∧
    (m.modeOf 0x02 = .implied → decode m [0x02, 0x11, 0x22] = .instr (.ill02 .implied) [0x11, 0x22]) ∧
    (m.modeOf 0x02 = .immediate → decode m [0x02, 0x11, 0x22] = .instr (.ill02 (.immediate 0x11)) [0x22]) ∧
    (m.modeOf 0x02 = .absolute → decode m [0x02, 0x11, 0x22] = .instr (.ill02 (.memory (.absolute 0x2211))) [])

/-- Any three bytes decode to an instruction of one, two or three bytes, its opcode byte and the operand bytes its mode has, and a byte sequence is rejected exactly when no well-formed instruction, followed by any bytes, is that sequence. That a sequence cut short is rejected at all is the model's choice: the spec's decoding has an entry for every byte and rejects nothing. The spec's own choice, no rule of its source (92_eei_decisions.md): the modes of the unassigned opcodes (D2). The model's own, no rule of the spec (notes/assumptions): the rejection of a sequence cut short (log 15). -/
def Obligations.EveryOpcodeByteDecodes : Prop :=
  ∀ (m : IllegalModes),
    (∀ b0 b1 b2, ∃ i rest, decode m [b0, b1, b2] = .instr i rest ∧ i.opcode = b0 ∧
      (encode i).length = 1 + i.operand.mode.operandBytes) ∧
    (∀ bytes, decode m bytes = .rejected .truncated ↔
      ∀ i, i.wf m = true → ∀ rest, encode i ++ rest ≠ bytes)

/-- For every state after the first reset in which step is the transition asked for, if the bytes the environment answers at PC, PC + 1 and PC + 2 decode to i then step is exec of i in the same state with PC past the bytes of i, the request taken, and the reads of those bytes, in increasing address order, recorded and counted. The spec's own choice, no rule of its source (92_eei_decisions.md): the order and number of bus transactions (D9). The model's own, no rule of the spec (notes/assumptions): BUS as data, with what stands behind an address and the count of device reads (log 1); the list of requests (log 6); the record of bus transactions (log 8). -/
def Obligations.StepRunsDecodedInstruction : Prop :=
  ∀ (s : State) (i : Instr) (rest : List Byte), s.resetDone = true → s.nextRequest = .step →
    decode s.config.illegalModes (window s) = .instr i rest → step s = exec i (fetched s i)

/-- In every state after the first reset, whatever transition is asked for, whatever bytes are at PC and whatever the environment answers, step answers a next state, which is after the first reset: no opcode, address or stack value faults or is refused. The spec's own choice, no rule of its source (92_eei_decisions.md): the refusal before the first reset (D16). The model's own, no rule of the spec (notes/assumptions): the list of requests (log 6); the mark of the first reset (log 7); that there is no fault (log 12). -/
def Obligations.StepAlwaysAnswers : Prop :=
  ∀ s : State, s.resetDone = true → ∃ t, step s = .next t ∧ t.resetDone = true

/-- In a state before the first reset, step is refused by name when step, interrupt or nmi is asked for, and answers a state after the first reset when reset is asked for. The spec's own choice, no rule of its source (92_eei_decisions.md): the refusal before the first reset (D16). The model's own, no rule of the spec (notes/assumptions): the mark of the first reset (log 7). -/
def Obligations.OnlyResetBeforeReset : Prop :=
  ∀ s : State, s.resetDone = false →
    (s.nextRequest ≠ .reset → step s = .refused .beforeReset) ∧
    (s.nextRequest = .reset → ∃ t, step s = .next t ∧ t.resetDone = true)

/-- From every state that meets the invariant, every transition that answers a next state answers one that meets it: the first reset has been invoked, memory is in its canonical form with every address below 65536, and the unused status bit U is 1. The canonical form of memory is the model's (log 1). The spec's own choice, no rule of its source (92_eei_decisions.md): who writes the stored B and U (D10). The model's own, no rule of the spec (notes/assumptions): BUS as data, with what stands behind an address and the count of device reads (log 1); the mark of the first reset (log 7). -/
def Obligations.StepKeepsInvariant : Prop :=
  ∀ s t : State, s.Inv → step s = .next t → t.Inv

/-- State.reset meets the invariant that every transition keeps. The canonical form of memory is the model's (log 1). The model's own, no rule of the spec (notes/assumptions): BUS as data, with what stands behind an address and the count of device reads (log 1); the mark of the first reset (log 7). -/
def Obligations.ResetMeetsInvariant : Prop :=
  State.reset.Inv

/-- For every BUS and every transition that answers a next state, running its recorded bus transactions in order from the memory before gives the memory after: every read of RAM or ROM returned the byte of the latest earlier write that was kept, or the byte before the transition, every read of a device the next answer BUS lists (a free value where it lists none), and every write was kept exactly where RAM stands behind its address. The spec's own choices, no rule of its source (92_eei_decisions.md): the order and number of bus transactions (D9); BUS as a parameter (D23). The model's own, no rule of the spec (notes/assumptions): BUS as data, with what stands behind an address and the count of device reads (log 1); the record of bus transactions (log 8). -/
def Obligations.BusEventsExplainMemory : Prop :=
  ∀ s t : State, step s = .next t → InOrder s.config.bus s.byteAt s.deviceReads t.bus t.byteAt t.deviceReads

/-- For every instruction i decoded at PC, the addresses of the bus transactions of its step are, in order: the reads of the bytes of i, the two pointer reads of the indirect modes, the read of the effective address in the memory forms of LDA, LDX, LDY, AND, ORA, EOR, BIT, ADC, SBC, CMP, CPX, CPY, INC, DEC, ASL, LSR, ROL and ROR and in no other, and the writes and then the reads of the handler that the table lists. Addresses are computed in the state past the bytes of i. The spec's own choices, no rule of its source (92_eei_decisions.md): the stack byte a push writes (D6); the page-0 wrap of a pointer (D7); the fetch flags (D8); the order and number of bus transactions (D9). The model's own, no rule of the spec (notes/assumptions): BUS as data, with what stands behind an address and the count of device reads (log 1); the record of bus transactions (log 8). -/
def Obligations.BusTransactionsOfStep : Prop :=
  ∀ (s t : State) (i : Instr) (rest : List Byte), s.nextRequest = .step →
    decode s.config.illegalModes (window s) = .instr i rest → step s = .next t →
    t.bus.map access =
      (instrAddrs s i).map .read ++ resolverAccesses (fetched s i) i.operand ++ operandAccesses (fetched s i) i ++
        (storeAddrs (fetched s i) i).map .write ++ (loadAddrs (fetched s i) i).map .read

/-- Every transition that answers a next state makes at most six bus transactions, and one that makes six is a step whose opcode byte is 0x00, BRK. The spec's own choice, no rule of its source (92_eei_decisions.md): the order and number of bus transactions (D9). The model's own, no rule of the spec (notes/assumptions): the record of bus transactions (log 8). -/
def Obligations.AtMostSixBusTransactions : Prop :=
  ∀ s t : State, step s = .next t →
    t.bus.length ≤ 6 ∧ (t.bus.length = 6 → s.nextRequest = .step ∧ s.answerAt s.pc = 0x00)

/-- When an instruction answers a next state: A differs only after LDA, TXA, TYA, PLA, AND, ORA, EOR, ADC, SBC or the accumulator form of a shift; X only after LDX, TAX, TSX, INX, DEX; Y only after LDY, TAY, INY, DEY; SP only after TXS, PHA, PHP, PLA, PLP, JSR, RTS, RTI, BRK; PC, past the operand already, only after JMP, JSR, RTS, RTI, BRK or a branch; the parameters, the request list and the reset mark never. The spec's own choice, no rule of its source (92_eei_decisions.md): the meanings read off the mnemonics (D22). -/
def Obligations.RegistersChangeOnlyAsListed : Prop :=
  ∀ (i : Instr) (s t : State), exec i s = .next t →
    (t.a ≠ s.a → i.handler ∈ [Handler.lda, .txa, .tya, .pla, .and, .ora, .eor, .adc, .sbc] ∨
      (i.handler ∈ [Handler.asl, .lsr, .rol, .ror] ∧ i.operand = .implied)) ∧
    (t.x ≠ s.x → i.handler ∈ [Handler.ldx, .tax, .tsx, .inx, .dex]) ∧
    (t.y ≠ s.y → i.handler ∈ [Handler.ldy, .tay, .iny, .dey]) ∧
    (t.sp ≠ s.sp → i.handler ∈ [Handler.txs, .pha, .php, .pla, .plp, .jsr, .rts, .rti, .brk]) ∧
    (t.pc ≠ s.pc → i.handler ∈ [Handler.jmp, .jsr, .rts, .rti, .brk, .bcc, .bcs, .bne, .beq, .bpl, .bmi, .bvc, .bvs]) ∧
    t.config = s.config ∧ t.requests = s.requests ∧ t.resetDone = s.resetDone

/-- When an instruction answers a next state, each of the eight flags differs only after an instruction whose row of the side-effect table writes it; the stored B and U differ only after PLP and RTI. The spec's own choices, no rule of its source (92_eei_decisions.md): who writes the stored B and U (D10); the flags of PLA (D11); the results and flags of the shifts (D12); that an entry changes no flag but I (D18); the meanings read off the mnemonics (D22). -/
def Obligations.FlagsChangeOnlyAsListed : Prop :=
  ∀ (i : Instr) (s t : State), exec i s = .next t →
    (t.p.n ≠ s.p.n ∨ t.p.z ≠ s.p.z → i.handler ∈ [Handler.lda, .ldx, .ldy, .tax, .tay, .txa, .tya, .tsx, .pla,
      .and, .ora, .eor, .inc, .dec, .inx, .dex, .iny, .dey, .adc, .sbc, .cmp, .cpx, .cpy, .asl, .lsr, .rol, .ror,
      .bit, .plp, .rti]) ∧
    (t.p.v ≠ s.p.v → i.handler ∈ [Handler.adc, .sbc, .bit, .clv, .plp, .rti]) ∧
    (t.p.c ≠ s.p.c → i.handler ∈ [Handler.adc, .sbc, .cmp, .cpx, .cpy, .asl, .lsr, .rol, .ror, .clc, .sec, .plp,
      .rti]) ∧
    (t.p.d ≠ s.p.d → i.handler ∈ [Handler.cld, .sed, .plp, .rti]) ∧
    (t.p.i ≠ s.p.i → i.handler ∈ [Handler.cli, .sei, .plp, .rti, .brk]) ∧
    (t.p.b ≠ s.p.b ∨ t.p.u ≠ s.p.u → i.handler ∈ [Handler.plp, .rti])

/-- When any instruction answers a next state, memory holds what it held before at every address that is not one its handler stores to, and at every address without RAM behind it: the effective address of a store, INC, DEC or memory form of a shift; the one, two or three stack addresses of PHA, PHP, JSR and BRK; none for every other instruction. The spec's own choices, no rule of its source (92_eei_decisions.md): the stack byte a push writes (D6); the order and number of bus transactions (D9). The model's own, no rule of the spec (notes/assumptions): BUS as data, with what stands behind an address and the count of device reads (log 1). -/
def Obligations.MemoryChangesOnlyWhereStored : Prop :=
  ∀ (i : Instr) (s t : State) (w : Word), exec i s = .next t →
    w ∉ storeAddrs s i ∨ s.config.bus.backingOf w ≠ .ram → t.byteAt w = s.byteAt w

/-- Every transition that answers a next state leaves the parameters of the instance as they are and leaves the request list without its first entry. The model's own, no rule of the spec (notes/assumptions): the list of requests (log 6). -/
def Obligations.TransitionsKeepParametersAndTakeOneRequest : Prop :=
  ∀ s t : State, step s = .next t → t.config = s.config ∧ t.requests = s.requests.tail

/-- If a transition from s answers t, then from s with any other stored B and U bits it answers a state that equals t but for those two bits: registers, other flags, memory, bus transactions and pushed bytes are the same. The spec's own choice, no rule of its source (92_eei_decisions.md): who writes the stored B and U (D10). -/
def Obligations.StoredBreakAndUnusedAreNeverRead : Prop :=
  ∀ (s t : State) (b u : Bool), step s = .next t →
    ∃ t', step (withBU s b u) = .next t' ∧ withBU t' t.p.b t.p.u = t

/-- For every instruction other than PHP and BRK, running it with the decimal flag at either value gives states that are equal but for the decimal flag; ADC and SBC are binary whatever it is. -/
def Obligations.DecimalFlagHasNoEffect : Prop :=
  ∀ (i : Instr) (s t : State) (d : Bool), i.handler ∉ [Handler.php, .brk] → exec i s = .next t →
    ∃ t', exec i (withD s d) = .next t' ∧ withD t' t.p.d = t

/-- When the instruction fetched at PC has the implied mode, PC is one past the opcode, the resolver makes no access and the operand is A; when it has the immediate mode, PC is two past the opcode, the operand is the byte the environment answered after the opcode byte and it is not read again. The spec's own choice, no rule of its source (92_eei_decisions.md): the single read of an immediate (D21). The model's own, no rule of the spec (notes/assumptions): BUS as data, with what stands behind an address and the count of device reads (log 1). -/
def Obligations.ImpliedAndImmediateOperands : Prop :=
  ∀ (s : State) (i : Instr) (u : State) (op b1 b2 : Byte), s.fetch = (i, u) → window s = [op, b1, b2] →
    (i.operand.mode = .implied → u.pc = s.pc + 1 ∧ u.fetchOperand i.operand = (s.a, u) ∧ u.resolveOnly i.operand = u) ∧
    (i.operand.mode = .immediate → u.pc = s.pc + 2 ∧ i.operand = .immediate b1 ∧
      u.fetchOperand i.operand = (b1, u) ∧ u.resolveOnly i.operand = u)

/-- When the instruction fetched at PC has a zero-page mode, its operand byte is the byte answered after the opcode byte, PC is two past the opcode, the effective address is that byte, or its sum with X or Y modulo 256, the resolver makes no further bus access, and an operand fetch makes one read, of the effective address, and its M is the byte the environment answers there. The spec's own choice, no rule of its source (92_eei_decisions.md): the order and number of bus transactions (D9). The model's own, no rule of the spec (notes/assumptions): BUS as data, with what stands behind an address and the count of device reads (log 1); the record of bus transactions (log 8). -/
def Obligations.ZeroPageModes : Prop :=
  ∀ (s : State) (i : Instr) (u : State) (op d8 b2 : Byte) (ea : Word), s.fetch = (i, u) → window s = [op, d8, b2] →
    (i.operand.mode = .zeroPage → ea.toNat = d8.toNat →
      i.operand = .memory (.zeroPage d8) ∧ u.pc = s.pc + 2 ∧ u.effectiveAddress (.zeroPage d8) = ea ∧
      u.resolveOnly i.operand = u ∧ u.fetchOperand i.operand = (u.answerAt ea, u.afterReads [ea])) ∧
    (i.operand.mode = .zeroPageX → ea.toNat = (d8.toNat + s.x.toNat) % 256 →
      i.operand = .memory (.zeroPageX d8) ∧ u.pc = s.pc + 2 ∧ u.effectiveAddress (.zeroPageX d8) = ea ∧
      u.resolveOnly i.operand = u ∧ u.fetchOperand i.operand = (u.answerAt ea, u.afterReads [ea])) ∧
    (i.operand.mode = .zeroPageY → ea.toNat = (d8.toNat + s.y.toNat) % 256 →
      i.operand = .memory (.zeroPageY d8) ∧ u.pc = s.pc + 2 ∧ u.effectiveAddress (.zeroPageY d8) = ea ∧
      u.resolveOnly i.operand = u ∧ u.fetchOperand i.operand = (u.answerAt ea, u.afterReads [ea]))

/-- When the instruction fetched at PC has an absolute mode, its operand word is the two bytes answered after the opcode byte, low byte first, PC is three past the opcode, the effective address is that word, or its sum with X or Y modulo 65536, the resolver makes no further bus access, and an operand fetch makes one read, of the effective address, and its M is the byte the environment answers there. The spec's own choice, no rule of its source (92_eei_decisions.md): the order and number of bus transactions (D9). The model's own, no rule of the spec (notes/assumptions): BUS as data, with what stands behind an address and the count of device reads (log 1); the record of bus transactions (log 8). -/
def Obligations.AbsoluteModes : Prop :=
  ∀ (s : State) (i : Instr) (u : State) (op lo hi : Byte) (a16 ea : Word), s.fetch = (i, u) →
    window s = [op, lo, hi] → a16.toNat = 256 * hi.toNat + lo.toNat →
    (i.operand.mode = .absolute → ea = a16 →
      i.operand = .memory (.absolute a16) ∧ u.pc = s.pc + 3 ∧ u.effectiveAddress (.absolute a16) = ea ∧
      u.resolveOnly i.operand = u ∧ u.fetchOperand i.operand = (u.answerAt ea, u.afterReads [ea])) ∧
    (i.operand.mode = .absoluteX → ea.toNat = (a16.toNat + s.x.toNat) % 65536 →
      i.operand = .memory (.absoluteX a16) ∧ u.pc = s.pc + 3 ∧ u.effectiveAddress (.absoluteX a16) = ea ∧
      u.resolveOnly i.operand = u ∧ u.fetchOperand i.operand = (u.answerAt ea, u.afterReads [ea])) ∧
    (i.operand.mode = .absoluteY → ea.toNat = (a16.toNat + s.y.toNat) % 65536 →
      i.operand = .memory (.absoluteY a16) ∧ u.pc = s.pc + 3 ∧ u.effectiveAddress (.absoluteY a16) = ea ∧
      u.resolveOnly i.operand = u ∧ u.fetchOperand i.operand = (u.answerAt ea, u.afterReads [ea]))

/-- When the instruction fetched at PC has the indirect mode, the pointer bytes are at the operand word w and at the next address in the page of w (w - 255 when the low byte of w is 0xFF); in (indirect,X) they are at operand + X and the next byte, both modulo 256; in (indirect),Y at the operand and the next byte modulo 256, and Y is added to the pointer modulo 65536. The resolver makes exactly those two reads, low byte first, the effective address is the word the environment answers to them, PC is past the operand bytes, and an operand fetch makes one read more, of the effective address, and its M is the byte the environment answers there after the pointer reads. The spec's own choices, no rule of its source (92_eei_decisions.md): the page-0 wrap of a pointer (D7); the order and number of bus transactions (D9). The model's own, no rule of the spec (notes/assumptions): BUS as data, with what stands behind an address and the count of device reads (log 1); the record of bus transactions (log 8). -/
def Obligations.PointerModes : Prop :=
  ∀ (s : State) (i : Instr) (u : State) (op b1 b2 : Byte) (w : Word), s.fetch = (i, u) →
    window s = [op, b1, b2] → w.toNat = 256 * b2.toNat + b1.toNat →
    (i.operand.mode = .indirect → i.operand = .memory (.indirect w) ∧ u.pc = s.pc + 3 ∧
      ∀ (w2 : Word) (lo hi : Byte), w2 = (if w.toNat % 256 = 255 then w - 255 else w + 1) →
        u.answers [w, w2] = [lo, hi] → ReadsThroughPointer u (.indirect w) [w, w2] (256 * hi.toNat + lo.toNat)) ∧
    (i.operand.mode = .indirectX → i.operand = .memory (.indirectX b1) ∧ u.pc = s.pc + 2 ∧
      ∀ (z z2 : Word) (lo hi : Byte), z.toNat = (b1.toNat + s.x.toNat) % 256 → z2.toNat = (z.toNat + 1) % 256 →
        u.answers [z, z2] = [lo, hi] → ReadsThroughPointer u (.indirectX b1) [z, z2] (256 * hi.toNat + lo.toNat)) ∧
    (i.operand.mode = .indirectY → i.operand = .memory (.indirectY b1) ∧ u.pc = s.pc + 2 ∧
      ∀ (z z2 : Word) (lo hi : Byte), z.toNat = b1.toNat → z2.toNat = (b1.toNat + 1) % 256 →
        u.answers [z, z2] = [lo, hi] →
          ReadsThroughPointer u (.indirectY b1) [z, z2] ((256 * hi.toNat + lo.toNat + s.y.toNat) % 65536))

/-- Every form of LDA, LDX and LDY has the bytes of its encoding and answers the state with A, X or Y the operand, Z whether it is 0, N its bit 7, and every other register, flag and byte of memory as before. The spec's own choice, no rule of its source (92_eei_decisions.md): the opcode bytes (D1). -/
def Obligations.LoadsWriteRegisterAndFlags : Prop :=
  ∀ (d8 : Byte) (a16 : Word),
    LoadsTo (fun s v => { s with a := v }) (.ldaImm d8) [0xA9, d8] (.immediate d8) ∧
    LoadsTo (fun s v => { s with a := v }) (.ldaZp d8) [0xA5, d8] (.memory (.zeroPage d8)) ∧
    LoadsTo (fun s v => { s with a := v }) (.ldaZpx d8) [0xB5, d8] (.memory (.zeroPageX d8)) ∧
    LoadsTo (fun s v => { s with a := v }) (.ldaAbs a16) [0xAD, loByte a16, hiByte a16] (.memory (.absolute a16)) ∧
    LoadsTo (fun s v => { s with a := v }) (.ldaAbx a16) [0xBD, loByte a16, hiByte a16] (.memory (.absoluteX a16)) ∧
    LoadsTo (fun s v => { s with a := v }) (.ldaAby a16) [0xB9, loByte a16, hiByte a16] (.memory (.absoluteY a16)) ∧
    LoadsTo (fun s v => { s with a := v }) (.ldaIzx d8) [0xA1, d8] (.memory (.indirectX d8)) ∧
    LoadsTo (fun s v => { s with a := v }) (.ldaIzy d8) [0xB1, d8] (.memory (.indirectY d8)) ∧
    LoadsTo (fun s v => { s with x := v }) (.ldxImm d8) [0xA2, d8] (.immediate d8) ∧
    LoadsTo (fun s v => { s with x := v }) (.ldxZp d8) [0xA6, d8] (.memory (.zeroPage d8)) ∧
    LoadsTo (fun s v => { s with x := v }) (.ldxZpy d8) [0xB6, d8] (.memory (.zeroPageY d8)) ∧
    LoadsTo (fun s v => { s with x := v }) (.ldxAbs a16) [0xAE, loByte a16, hiByte a16] (.memory (.absolute a16)) ∧
    LoadsTo (fun s v => { s with x := v }) (.ldxAby a16) [0xBE, loByte a16, hiByte a16] (.memory (.absoluteY a16)) ∧
    LoadsTo (fun s v => { s with y := v }) (.ldyImm d8) [0xA0, d8] (.immediate d8) ∧
    LoadsTo (fun s v => { s with y := v }) (.ldyZp d8) [0xA4, d8] (.memory (.zeroPage d8)) ∧
    LoadsTo (fun s v => { s with y := v }) (.ldyZpx d8) [0xB4, d8] (.memory (.zeroPageX d8)) ∧
    LoadsTo (fun s v => { s with y := v }) (.ldyAbs a16) [0xAC, loByte a16, hiByte a16] (.memory (.absolute a16)) ∧
    LoadsTo (fun s v => { s with y := v }) (.ldyAbx a16) [0xBC, loByte a16, hiByte a16] (.memory (.absoluteX a16))

/-- Every form of STA, STX and STY has the bytes of its encoding and answers the state in which, past the pointer reads of the indirect modes, one bus write has presented A, X or Y at its effective address, whatever stands behind that address and without a read of it (memory holds the byte where RAM stands there), every other address of memory is as before, no other bus transaction is made, and no register or flag changes. The spec's own choices, no rule of its source (92_eei_decisions.md): the opcode bytes (D1); the page-0 wrap of a pointer (D7); the order and number of bus transactions (D9). The model's own, no rule of the spec (notes/assumptions): BUS as data, with what stands behind an address and the count of device reads (log 1); the record of bus transactions (log 8). -/
def Obligations.StoresWriteMemoryOnly : Prop :=
  ∀ (d8 : Byte) (a16 : Word),
    Stores State.a (.staZp d8) [0x85, d8] (.zeroPage d8) ∧
    Stores State.a (.staZpx d8) [0x95, d8] (.zeroPageX d8) ∧
    Stores State.a (.staAbs a16) [0x8D, loByte a16, hiByte a16] (.absolute a16) ∧
    Stores State.a (.staAbx a16) [0x9D, loByte a16, hiByte a16] (.absoluteX a16) ∧
    Stores State.a (.staAby a16) [0x99, loByte a16, hiByte a16] (.absoluteY a16) ∧
    Stores State.a (.staIzx d8) [0x81, d8] (.indirectX d8) ∧
    Stores State.a (.staIzy d8) [0x91, d8] (.indirectY d8) ∧
    Stores State.x (.stxZp d8) [0x86, d8] (.zeroPage d8) ∧
    Stores State.x (.stxZpy d8) [0x96, d8] (.zeroPageY d8) ∧
    Stores State.x (.stxAbs a16) [0x8E, loByte a16, hiByte a16] (.absolute a16) ∧
    Stores State.y (.styZp d8) [0x84, d8] (.zeroPage d8) ∧
    Stores State.y (.styZpx d8) [0x94, d8] (.zeroPageX d8) ∧
    Stores State.y (.styAbs a16) [0x8C, loByte a16, hiByte a16] (.absolute a16)

/-- TAX, TAY, TXA, TYA and TSX copy their source register to their destination and set Z and N from it; TXS copies X to SP and changes no flag; nothing else changes. The spec's own choices, no rule of its source (92_eei_decisions.md): the opcode bytes (D1); the meanings read off the mnemonics (D22). -/
def Obligations.TransfersCopyRegister : Prop :=
  (∀ s, Answers .tax s { s with x := s.a, p := withZN s.p s.a }) ∧ encode .tax = [0xAA] ∧
    (∀ s, Answers .tay s { s with y := s.a, p := withZN s.p s.a }) ∧ encode .tay = [0xA8] ∧
    (∀ s, Answers .txa s { s with a := s.x, p := withZN s.p s.x }) ∧ encode .txa = [0x8A] ∧
    (∀ s, Answers .tya s { s with a := s.y, p := withZN s.p s.y }) ∧ encode .tya = [0x98] ∧
    (∀ s, Answers .tsx s { s with x := s.sp, p := withZN s.p s.sp }) ∧ encode .tsx = [0xBA] ∧
    (∀ s, Answers .txs s { s with sp := s.x }) ∧ encode .txs = [0x9A]

/-- PHA writes A, and PHP writes the byte of the flags N V D I Z C with bits 5 and 4 set, to the stack address of SP, in one bus transaction (memory holds it where RAM stands behind that address); SP goes down by one modulo 256, every other address of memory is as before, and no other register and no flag changes. The spec's own choices, no rule of its source (92_eei_decisions.md): the opcode bytes (D1); the places of I and D in the status byte (D5); the stack byte a push writes (D6); the order and number of bus transactions (D9); who writes the stored B and U (D10). The model's own, no rule of the spec (notes/assumptions): BUS as data, with what stands behind an address and the count of device reads (log 1); the record of bus transactions (log 8). -/
def Obligations.PushesStoreAtStackPointer : Prop :=
  encode .pha = [0x48] ∧ encode .php = [0x08] ∧
    (∀ s, ∃ t, exec .pha s = .next t ∧ WritesByte s t (stackAddr s.sp) s.a ∧
      t = { s with sp := s.sp - 1, mem := t.mem, bus := s.bus ++ [.write (stackAddr s.sp) s.a] }) ∧
    (∀ s, ∃ t v, exec .php s = .next t ∧ IsPacked v true s.p ∧ WritesByte s t (stackAddr s.sp) v ∧
      t = { s with sp := s.sp - 1, mem := t.mem, bus := s.bus ++ [.write (stackAddr s.sp) v] })

/-- PLA loads A from the byte the environment answers at the stack address of SP + 1 and sets Z and N; PLP loads C, Z, I, D, V, N from bits 0, 1, 2, 3, 6, 7 of that byte and makes B 0 and U 1; SP goes up by one modulo 256 and nothing else changes. The spec's own choices, no rule of its source (92_eei_decisions.md): the opcode bytes (D1); the places of I and D in the status byte (D5); the stack byte a push writes (D6); who writes the stored B and U (D10); the flags of PLA (D11). The model's own, no rule of the spec (notes/assumptions): BUS as data, with what stands behind an address and the count of device reads (log 1). -/
def Obligations.PullsLoadAboveStackPointer : Prop :=
  encode .pla = [0x68] ∧ encode .plp = [0x28] ∧
    (∀ s, ∀ v, v = s.answerAt (stackAddr (s.sp + 1)) →
      Answers .pla s { s with a := v, sp := s.sp + 1, p := withZN s.p v } ∧
      Answers .plp s { s with sp := s.sp + 1, p := unpacked v })

/-- Every form of AND, ORA and EOR has the bytes of its encoding and answers the state with A the bitwise and, or, exclusive or of A and the operand, Z and N from it, and nothing else changed. The spec's own choice, no rule of its source (92_eei_decisions.md): the opcode bytes (D1). -/
def Obligations.LogicCombinesIntoAccumulator : Prop :=
  ∀ (d8 : Byte) (a16 : Word),
    Combines (· &&& ·) (.andImm d8) [0x29, d8] (.immediate d8) ∧
    Combines (· &&& ·) (.andZp d8) [0x25, d8] (.memory (.zeroPage d8)) ∧
    Combines (· &&& ·) (.andZpx d8) [0x35, d8] (.memory (.zeroPageX d8)) ∧
    Combines (· &&& ·) (.andAbs a16) [0x2D, loByte a16, hiByte a16] (.memory (.absolute a16)) ∧
    Combines (· &&& ·) (.andAbx a16) [0x3D, loByte a16, hiByte a16] (.memory (.absoluteX a16)) ∧
    Combines (· &&& ·) (.andAby a16) [0x39, loByte a16, hiByte a16] (.memory (.absoluteY a16)) ∧
    Combines (· &&& ·) (.andIzx d8) [0x21, d8] (.memory (.indirectX d8)) ∧
    Combines (· &&& ·) (.andIzy d8) [0x31, d8] (.memory (.indirectY d8)) ∧
    Combines (· ||| ·) (.oraImm d8) [0x09, d8] (.immediate d8) ∧
    Combines (· ||| ·) (.oraZp d8) [0x05, d8] (.memory (.zeroPage d8)) ∧
    Combines (· ||| ·) (.oraZpx d8) [0x15, d8] (.memory (.zeroPageX d8)) ∧
    Combines (· ||| ·) (.oraAbs a16) [0x0D, loByte a16, hiByte a16] (.memory (.absolute a16)) ∧
    Combines (· ||| ·) (.oraAbx a16) [0x1D, loByte a16, hiByte a16] (.memory (.absoluteX a16)) ∧
    Combines (· ||| ·) (.oraAby a16) [0x19, loByte a16, hiByte a16] (.memory (.absoluteY a16)) ∧
    Combines (· ||| ·) (.oraIzx d8) [0x01, d8] (.memory (.indirectX d8)) ∧
    Combines (· ||| ·) (.oraIzy d8) [0x11, d8] (.memory (.indirectY d8)) ∧
    Combines (· ^^^ ·) (.eorImm d8) [0x49, d8] (.immediate d8) ∧
    Combines (· ^^^ ·) (.eorZp d8) [0x45, d8] (.memory (.zeroPage d8)) ∧
    Combines (· ^^^ ·) (.eorZpx d8) [0x55, d8] (.memory (.zeroPageX d8)) ∧
    Combines (· ^^^ ·) (.eorAbs a16) [0x4D, loByte a16, hiByte a16] (.memory (.absolute a16)) ∧
    Combines (· ^^^ ·) (.eorAbx a16) [0x5D, loByte a16, hiByte a16] (.memory (.absoluteX a16)) ∧
    Combines (· ^^^ ·) (.eorAby a16) [0x59, loByte a16, hiByte a16] (.memory (.absoluteY a16)) ∧
    Combines (· ^^^ ·) (.eorIzx d8) [0x41, d8] (.memory (.indirectX d8)) ∧
    Combines (· ^^^ ·) (.eorIzy d8) [0x51, d8] (.memory (.indirectY d8))

/-- Both forms of BIT have the bytes of their encoding and change only Z (whether A and the operand share no bit), V (bit 6 of the operand) and N (bit 7 of the operand). The spec's own choice, no rule of its source (92_eei_decisions.md): the opcode bytes (D1). -/
def Obligations.BitTestsMemory : Prop :=
  ∀ (d8 : Byte) (a16 : Word),
    TestsBits (.bitZp d8) [0x24, d8] (.memory (.zeroPage d8)) ∧
    TestsBits (.bitAbs a16) [0x2C, loByte a16, hiByte a16] (.memory (.absolute a16))

/-- Every form of ADC has the bytes of its encoding and answers the state with A the sum of A, the operand and C modulo 256, C whether the sum exceeds 255, V by the formula of the rule (which holds exactly when the signed sum is outside -128 to 127), Z and N from the result, whatever D is, and nothing else changed. The spec's own choices, no rule of its source (92_eei_decisions.md): the opcode bytes (D1); two's complement (D24). -/
def Obligations.AdcAddsWithCarry : Prop :=
  ∀ (d8 : Byte) (a16 : Word),
    Adds (.adcImm d8) [0x69, d8] (.immediate d8) ∧
    Adds (.adcZp d8) [0x65, d8] (.memory (.zeroPage d8)) ∧
    Adds (.adcZpx d8) [0x75, d8] (.memory (.zeroPageX d8)) ∧
    Adds (.adcAbs a16) [0x6D, loByte a16, hiByte a16] (.memory (.absolute a16)) ∧
    Adds (.adcAbx a16) [0x7D, loByte a16, hiByte a16] (.memory (.absoluteX a16)) ∧
    Adds (.adcAby a16) [0x79, loByte a16, hiByte a16] (.memory (.absoluteY a16)) ∧
    Adds (.adcIzx d8) [0x61, d8] (.memory (.indirectX d8)) ∧
    Adds (.adcIzy d8) [0x71, d8] (.memory (.indirectY d8))

/-- Every form of SBC has the bytes of its encoding and answers the state with A the difference of A, the operand and 1 - C modulo 256, C whether no borrow occurred, V by the formula of the rule on the complemented operand (which holds exactly when the signed difference is outside -128 to 127), Z and N from the result, whatever D is, and nothing else changed. The spec's own choices, no rule of its source (92_eei_decisions.md): the opcode bytes (D1); two's complement (D24). -/
def Obligations.SbcSubtractsWithBorrow : Prop :=
  ∀ (d8 : Byte) (a16 : Word),
    Subtracts (.sbcImm d8) [0xE9, d8] (.immediate d8) ∧
    Subtracts (.sbcZp d8) [0xE5, d8] (.memory (.zeroPage d8)) ∧
    Subtracts (.sbcZpx d8) [0xF5, d8] (.memory (.zeroPageX d8)) ∧
    Subtracts (.sbcAbs a16) [0xED, loByte a16, hiByte a16] (.memory (.absolute a16)) ∧
    Subtracts (.sbcAbx a16) [0xFD, loByte a16, hiByte a16] (.memory (.absoluteX a16)) ∧
    Subtracts (.sbcAby a16) [0xF9, loByte a16, hiByte a16] (.memory (.absoluteY a16)) ∧
    Subtracts (.sbcIzx d8) [0xE1, d8] (.memory (.indirectX d8)) ∧
    Subtracts (.sbcIzy d8) [0xF1, d8] (.memory (.indirectY d8))

/-- Every form of CMP, CPX and CPY has the bytes of its encoding and changes only C (the register is at least the operand, unsigned), Z (they are equal) and N (bit 7 of the difference modulo 256). The spec's own choice, no rule of its source (92_eei_decisions.md): the opcode bytes (D1). -/
def Obligations.ComparesSetCarryZeroNegative : Prop :=
  ∀ (d8 : Byte) (a16 : Word),
    Compares State.a (.cmpImm d8) [0xC9, d8] (.immediate d8) ∧
    Compares State.a (.cmpZp d8) [0xC5, d8] (.memory (.zeroPage d8)) ∧
    Compares State.a (.cmpZpx d8) [0xD5, d8] (.memory (.zeroPageX d8)) ∧
    Compares State.a (.cmpAbs a16) [0xCD, loByte a16, hiByte a16] (.memory (.absolute a16)) ∧
    Compares State.a (.cmpAbx a16) [0xDD, loByte a16, hiByte a16] (.memory (.absoluteX a16)) ∧
    Compares State.a (.cmpAby a16) [0xD9, loByte a16, hiByte a16] (.memory (.absoluteY a16)) ∧
    Compares State.a (.cmpIzx d8) [0xC1, d8] (.memory (.indirectX d8)) ∧
    Compares State.a (.cmpIzy d8) [0xD1, d8] (.memory (.indirectY d8)) ∧
    Compares State.x (.cpxImm d8) [0xE0, d8] (.immediate d8) ∧
    Compares State.x (.cpxZp d8) [0xE4, d8] (.memory (.zeroPage d8)) ∧
    Compares State.x (.cpxAbs a16) [0xEC, loByte a16, hiByte a16] (.memory (.absolute a16)) ∧
    Compares State.y (.cpyImm d8) [0xC0, d8] (.immediate d8) ∧
    Compares State.y (.cpyZp d8) [0xC4, d8] (.memory (.zeroPage d8)) ∧
    Compares State.y (.cpyAbs a16) [0xCC, loByte a16, hiByte a16] (.memory (.absolute a16))

/-- Every form of INC and DEC has the bytes of its encoding and answers the state in which one bus read of the effective address and then one bus write have been made, the write presenting the operand plus or minus one modulo 256 there, whatever stands behind that address (memory holds it where RAM does), Z and N are of it, every other address of memory is as before, and nothing else changes. The spec's own choices, no rule of its source (92_eei_decisions.md): the opcode bytes (D1); the order and number of bus transactions (D9). The model's own, no rule of the spec (notes/assumptions): BUS as data, with what stands behind an address and the count of device reads (log 1); the record of bus transactions (log 8). -/
def Obligations.IncDecMemory : Prop :=
  ∀ (d8 : Byte) (a16 : Word),
    Modifies (· + 1) (.incZp d8) [0xE6, d8] (.zeroPage d8) ∧
    Modifies (· + 1) (.incZpx d8) [0xF6, d8] (.zeroPageX d8) ∧
    Modifies (· + 1) (.incAbs a16) [0xEE, loByte a16, hiByte a16] (.absolute a16) ∧
    Modifies (· + 1) (.incAbx a16) [0xFE, loByte a16, hiByte a16] (.absoluteX a16) ∧
    Modifies (· - 1) (.decZp d8) [0xC6, d8] (.zeroPage d8) ∧
    Modifies (· - 1) (.decZpx d8) [0xD6, d8] (.zeroPageX d8) ∧
    Modifies (· - 1) (.decAbs a16) [0xCE, loByte a16, hiByte a16] (.absolute a16) ∧
    Modifies (· - 1) (.decAbx a16) [0xDE, loByte a16, hiByte a16] (.absoluteX a16)

/-- INX, DEX, INY and DEY have the bytes of their encoding and answer the state with X or Y one more or one less modulo 256, Z and N from it, and nothing else changed. The spec's own choice, no rule of its source (92_eei_decisions.md): the opcode bytes (D1). -/
def Obligations.IncDecRegister : Prop :=
  (∀ s, Answers .inx s { s with x := s.x + 1, p := withZN s.p (s.x + 1) }) ∧ encode .inx = [0xE8] ∧
    (∀ s, Answers .dex s { s with x := s.x - 1, p := withZN s.p (s.x - 1) }) ∧ encode .dex = [0xCA] ∧
    (∀ s, Answers .iny s { s with y := s.y + 1, p := withZN s.p (s.y + 1) }) ∧ encode .iny = [0xC8] ∧
    (∀ s, Answers .dey s { s with y := s.y - 1, p := withZN s.p (s.y - 1) }) ∧ encode .dey = [0x88]

/-- Every form of ASL and LSR has the bytes of its encoding; the result is twice the operand modulo 256, or half of it, C is bit 7 or bit 0 of the operand, Z and N are of the result, and it is written back to A, or to the effective address: one bus read of it and then one bus write are made, the write presenting the result there, whatever stands behind that address (memory holds it where RAM does); every other address of memory, register and flag as before. The spec's own choices, no rule of its source (92_eei_decisions.md): the opcode bytes (D1); the order and number of bus transactions (D9); the results and flags of the shifts (D12). The model's own, no rule of the spec (notes/assumptions): BUS as data, with what stands behind an address and the count of device reads (log 1); the record of bus transactions (log 8). -/
def Obligations.ShiftsMoveOneBit : Prop :=
  ∀ (d8 : Byte) (a16 : Word),
    ShiftsA (fun _ m => BitVec.ofNat 8 (2 * m.toNat)) (fun m => m.getLsbD 7) .aslA [0x0A] ∧
    ShiftsMemory (fun _ m => BitVec.ofNat 8 (2 * m.toNat)) (fun m => m.getLsbD 7) (.aslZp d8) [0x06, d8] (.zeroPage d8) ∧
    ShiftsMemory (fun _ m => BitVec.ofNat 8 (2 * m.toNat)) (fun m => m.getLsbD 7) (.aslZpx d8) [0x16, d8] (.zeroPageX d8) ∧
    ShiftsMemory (fun _ m => BitVec.ofNat 8 (2 * m.toNat)) (fun m => m.getLsbD 7) (.aslAbs a16) [0x0E, loByte a16, hiByte a16] (.absolute a16) ∧
    ShiftsMemory (fun _ m => BitVec.ofNat 8 (2 * m.toNat)) (fun m => m.getLsbD 7) (.aslAbx a16) [0x1E, loByte a16, hiByte a16] (.absoluteX a16) ∧
    ShiftsA (fun _ m => BitVec.ofNat 8 (m.toNat / 2)) (fun m => m.getLsbD 0) .lsrA [0x4A] ∧
    ShiftsMemory (fun _ m => BitVec.ofNat 8 (m.toNat / 2)) (fun m => m.getLsbD 0) (.lsrZp d8) [0x46, d8] (.zeroPage d8) ∧
    ShiftsMemory (fun _ m => BitVec.ofNat 8 (m.toNat / 2)) (fun m => m.getLsbD 0) (.lsrZpx d8) [0x56, d8] (.zeroPageX d8) ∧
    ShiftsMemory (fun _ m => BitVec.ofNat 8 (m.toNat / 2)) (fun m => m.getLsbD 0) (.lsrAbs a16) [0x4E, loByte a16, hiByte a16] (.absolute a16) ∧
    ShiftsMemory (fun _ m => BitVec.ofNat 8 (m.toNat / 2)) (fun m => m.getLsbD 0) (.lsrAbx a16) [0x5E, loByte a16, hiByte a16] (.absoluteX a16)

/-- Every form of ROL and ROR has the bytes of its encoding; the result is twice the operand modulo 256 plus the old carry, or half of it plus 128 times the old carry, C is bit 7 or bit 0 of the operand, Z and N are of the result, and it is written back to A, or to the effective address: one bus read of it and then one bus write are made, the write presenting the result there, whatever stands behind that address (memory holds it where RAM does); every other address of memory, register and flag as before. The spec's own choices, no rule of its source (92_eei_decisions.md): the opcode bytes (D1); the order and number of bus transactions (D9); the results and flags of the shifts (D12). The model's own, no rule of the spec (notes/assumptions): BUS as data, with what stands behind an address and the count of device reads (log 1); the record of bus transactions (log 8). -/
def Obligations.RotatesPassThroughCarry : Prop :=
  ∀ (d8 : Byte) (a16 : Word),
    ShiftsA (fun c m => BitVec.ofNat 8 (2 * m.toNat + c.toNat)) (fun m => m.getLsbD 7) .rolA [0x2A] ∧
    ShiftsMemory (fun c m => BitVec.ofNat 8 (2 * m.toNat + c.toNat)) (fun m => m.getLsbD 7) (.rolZp d8) [0x26, d8] (.zeroPage d8) ∧
    ShiftsMemory (fun c m => BitVec.ofNat 8 (2 * m.toNat + c.toNat)) (fun m => m.getLsbD 7) (.rolZpx d8) [0x36, d8] (.zeroPageX d8) ∧
    ShiftsMemory (fun c m => BitVec.ofNat 8 (2 * m.toNat + c.toNat)) (fun m => m.getLsbD 7) (.rolAbs a16) [0x2E, loByte a16, hiByte a16] (.absolute a16) ∧
    ShiftsMemory (fun c m => BitVec.ofNat 8 (2 * m.toNat + c.toNat)) (fun m => m.getLsbD 7) (.rolAbx a16) [0x3E, loByte a16, hiByte a16] (.absoluteX a16) ∧
    ShiftsA (fun c m => BitVec.ofNat 8 (m.toNat / 2 + 128 * c.toNat)) (fun m => m.getLsbD 0) .rorA [0x6A] ∧
    ShiftsMemory (fun c m => BitVec.ofNat 8 (m.toNat / 2 + 128 * c.toNat)) (fun m => m.getLsbD 0) (.rorZp d8) [0x66, d8] (.zeroPage d8) ∧
    ShiftsMemory (fun c m => BitVec.ofNat 8 (m.toNat / 2 + 128 * c.toNat)) (fun m => m.getLsbD 0) (.rorZpx d8) [0x76, d8] (.zeroPageX d8) ∧
    ShiftsMemory (fun c m => BitVec.ofNat 8 (m.toNat / 2 + 128 * c.toNat)) (fun m => m.getLsbD 0) (.rorAbs a16) [0x6E, loByte a16, hiByte a16] (.absolute a16) ∧
    ShiftsMemory (fun c m => BitVec.ofNat 8 (m.toNat / 2 + 128 * c.toNat)) (fun m => m.getLsbD 0) (.rorAbx a16) [0x7E, loByte a16, hiByte a16] (.absoluteX a16)

/-- Both forms of JMP have the bytes of their encoding and answer the state with PC the effective address of the absolute or indirect operand, and no register, flag or byte of memory changed. The spec's own choices, no rule of its source (92_eei_decisions.md): the opcode bytes (D1); the fetch flags (D8). -/
def Obligations.JumpSetsProgramCounter : Prop :=
  ∀ a16 : Word,
    encode (.jmpAbs a16) = [0x4C, loByte a16, hiByte a16] ∧ encode (.jmpInd a16) = [0x6C, loByte a16, hiByte a16] ∧
    (∀ s, Answers (.jmpAbs a16) s { s with pc := a16 }) ∧
    (∀ s, Answers (.jmpInd a16) s { s with pc := s.effectiveAddress (.indirect a16) })

/-- JSR has the bytes of its encoding and answers the state in which the high byte of PC - 1 and then its low byte have been written to the stack addresses of SP and SP - 1, in two bus transactions (memory holds them where RAM stands behind those addresses), every other address of memory is as before, SP is two less modulo 256, PC is the operand word, and nothing else changes. The spec's own choices, no rule of its source (92_eei_decisions.md): the opcode bytes (D1); the stack byte a push writes (D6); the fetch flags (D8); the order and number of bus transactions (D9). The model's own, no rule of the spec (notes/assumptions): BUS as data, with what stands behind an address and the count of device reads (log 1); the record of bus transactions (log 8). -/
def Obligations.JsrPushesReturnAddress : Prop :=
  ∀ a16 : Word, encode (.jsr a16) = [0x20, loByte a16, hiByte a16] ∧
    ∀ s, ∃ t, exec (.jsr a16) s = .next t ∧
      WritesBytes s t [(stackAddr s.sp, hiByte (s.pc - 1)), (stackAddr (s.sp - 1), loByte (s.pc - 1))] ∧
      t = { s with
        sp := s.sp - 2
        pc := a16
        mem := t.mem
        bus := s.bus ++ [.write (stackAddr s.sp) (hiByte (s.pc - 1)), .write (stackAddr (s.sp - 1)) (loByte (s.pc - 1))] }

/-- RTS has the byte of its encoding and answers the state with PC one more, modulo 65536, than the word whose low byte the environment answers at the stack address of SP + 1 and whose high byte it answers next at that of SP + 2, SP two more modulo 256, and nothing else changed. The spec's own choices, no rule of its source (92_eei_decisions.md): the opcode bytes (D1); the stack byte a push writes (D6). The model's own, no rule of the spec (notes/assumptions): BUS as data, with what stands behind an address and the count of device reads (log 1). -/
def Obligations.RtsReturnsPastPulledWord : Prop :=
  encode .rts = [0x60] ∧
    ∀ (s : State) (lo hi : Byte), s.answers [stackAddr (s.sp + 1), stackAddr (s.sp + 2)] = [lo, hi] →
      Answers .rts s { s with sp := s.sp + 2, pc := wordOf hi lo + 1 }

/-- Each of the eight branches has the bytes of its encoding and answers the state with PC the address after the operand plus the signed displacement modulo 65536 when its condition holds and unchanged when it does not (BCC C=0, BCS C=1, BNE Z=0, BEQ Z=1, BPL N=0, BMI N=1, BVC V=0, BVS V=1), and nothing else changed. The spec's own choices, no rule of its source (92_eei_decisions.md): the opcode bytes (D1); the meanings read off the mnemonics (D22); two's complement (D24). -/
def Obligations.BranchesMoveByDisplacement : Prop :=
  ∀ d8 : Byte,
    Branches (fun p => !p.c) (.bcc d8) [0x90, d8] d8 ∧
    Branches (fun p => p.c) (.bcs d8) [0xB0, d8] d8 ∧
    Branches (fun p => !p.z) (.bne d8) [0xD0, d8] d8 ∧
    Branches (fun p => p.z) (.beq d8) [0xF0, d8] d8 ∧
    Branches (fun p => !p.n) (.bpl d8) [0x10, d8] d8 ∧
    Branches (fun p => p.n) (.bmi d8) [0x30, d8] d8 ∧
    Branches (fun p => !p.v) (.bvc d8) [0x50, d8] d8 ∧
    Branches (fun p => p.v) (.bvs d8) [0x70, d8] d8

/-- Each flag instruction has the byte of its encoding and answers the state in which its one flag is 0 or 1 and nothing else changed. The spec's own choices, no rule of its source (92_eei_decisions.md): the opcode bytes (D1); the meanings read off the mnemonics (D22). -/
def Obligations.FlagInstructionsWriteOneFlag : Prop :=
  SetsFlags (fun p => { p with c := false }) .clc [0x18] ∧
    SetsFlags (fun p => { p with d := false }) .cld [0xD8] ∧
    SetsFlags (fun p => { p with i := false }) .cli [0x58] ∧
    SetsFlags (fun p => { p with v := false }) .clv [0xB8] ∧
    SetsFlags (fun p => { p with c := true }) .sec [0x38] ∧
    SetsFlags (fun p => { p with d := true }) .sed [0xF8] ∧
    SetsFlags (fun p => { p with i := true }) .sei [0x78]

/-- BRK has the byte of its encoding and performs the entry sequence with the return address PC + BRK_PAD, for either value of that parameter, bit 4 of the pushed status 1, and the vector at 0xFFFE, in every state. The spec's own choices, no rule of its source (92_eei_decisions.md): the opcode bytes (D1); BRK_PAD (D3); the places of I and D in the status byte (D5); the stack byte a push writes (D6); the order and number of bus transactions (D9); who writes the stored B and U (D10); that an entry changes no flag but I (D18). The model's own, no rule of the spec (notes/assumptions): BUS as data, with what stands behind an address and the count of device reads (log 1); the record of bus transactions (log 8). -/
def Obligations.BrkEntersThroughIrqVector : Prop :=
  encode .brk = [0x00] ∧
    ∀ s, ∃ t, exec .brk s = .next t ∧ Entered s t (s.pc + if s.config.brkPad then 1 else 0) true 0xFFFE

/-- NOP has the byte of its encoding, answers a next state, and changes no register, flag or byte of memory, nor makes a bus transaction. The spec's own choice, no rule of its source (92_eei_decisions.md): the opcode bytes (D1). -/
def Obligations.NopOnlyAdvances : Prop :=
  encode .nop = [0xEA] ∧ ∀ s : State, exec .nop s = .next s

/-- RTI has the byte of its encoding and answers the state with the flags C, Z, I, D, V, N from the byte the environment answers at the stack address of SP + 1, B 0 and U 1, PC the word it answers next at those of SP + 2 and SP + 3, low byte first, SP three more modulo 256, and nothing else changed. The spec's own choices, no rule of its source (92_eei_decisions.md): the opcode bytes (D1); the places of I and D in the status byte (D5); the stack byte a push writes (D6); who writes the stored B and U (D10). The model's own, no rule of the spec (notes/assumptions): BUS as data, with what stands behind an address and the count of device reads (log 1). -/
def Obligations.RtiRestoresStatusAndProgramCounter : Prop :=
  encode .rti = [0x40] ∧
    ∀ (s : State) (status lo hi : Byte),
      s.answers [stackAddr (s.sp + 1), stackAddr (s.sp + 2), stackAddr (s.sp + 3)] = [status, lo, hi] →
      Answers .rti s { s with sp := s.sp + 3, p := unpacked status, pc := wordOf hi lo }

/-- Each unassigned opcode, with an operand of any mode, is its opcode byte followed by the operand bytes, answers a next state, and changes no register, flag or byte of memory; PC stays past the operand bytes. The spec's own choices, no rule of its source (92_eei_decisions.md): the opcode bytes (D1); the modes of the unassigned opcodes (D2). -/
def Obligations.UnassignedOpcodesDoNothing : Prop :=
  ∀ o : Operand,
    NoOps (.ill02 o) (0x02 :: o.bytes) ∧
    NoOps (.ill03 o) (0x03 :: o.bytes) ∧
    NoOps (.ill04 o) (0x04 :: o.bytes) ∧
    NoOps (.ill07 o) (0x07 :: o.bytes) ∧
    NoOps (.ill0B o) (0x0B :: o.bytes) ∧
    NoOps (.ill0C o) (0x0C :: o.bytes) ∧
    NoOps (.ill0F o) (0x0F :: o.bytes) ∧
    NoOps (.ill12 o) (0x12 :: o.bytes) ∧
    NoOps (.ill13 o) (0x13 :: o.bytes) ∧
    NoOps (.ill14 o) (0x14 :: o.bytes) ∧
    NoOps (.ill17 o) (0x17 :: o.bytes) ∧
    NoOps (.ill1A o) (0x1A :: o.bytes) ∧
    NoOps (.ill1B o) (0x1B :: o.bytes) ∧
    NoOps (.ill1C o) (0x1C :: o.bytes) ∧
    NoOps (.ill1F o) (0x1F :: o.bytes) ∧
    NoOps (.ill22 o) (0x22 :: o.bytes) ∧
    NoOps (.ill23 o) (0x23 :: o.bytes) ∧
    NoOps (.ill27 o) (0x27 :: o.bytes) ∧
    NoOps (.ill2B o) (0x2B :: o.bytes) ∧
    NoOps (.ill2F o) (0x2F :: o.bytes) ∧
    NoOps (.ill32 o) (0x32 :: o.bytes) ∧
    NoOps (.ill33 o) (0x33 :: o.bytes) ∧
    NoOps (.ill34 o) (0x34 :: o.bytes) ∧
    NoOps (.ill37 o) (0x37 :: o.bytes) ∧
    NoOps (.ill3A o) (0x3A :: o.bytes) ∧
    NoOps (.ill3B o) (0x3B :: o.bytes) ∧
    NoOps (.ill3C o) (0x3C :: o.bytes) ∧
    NoOps (.ill3F o) (0x3F :: o.bytes) ∧
    NoOps (.ill42 o) (0x42 :: o.bytes) ∧
    NoOps (.ill43 o) (0x43 :: o.bytes) ∧
    NoOps (.ill44 o) (0x44 :: o.bytes) ∧
    NoOps (.ill47 o) (0x47 :: o.bytes) ∧
    NoOps (.ill4B o) (0x4B :: o.bytes) ∧
    NoOps (.ill4F o) (0x4F :: o.bytes) ∧
    NoOps (.ill52 o) (0x52 :: o.bytes) ∧
    NoOps (.ill53 o) (0x53 :: o.bytes) ∧
    NoOps (.ill54 o) (0x54 :: o.bytes) ∧
    NoOps (.ill57 o) (0x57 :: o.bytes) ∧
    NoOps (.ill5A o) (0x5A :: o.bytes) ∧
    NoOps (.ill5B o) (0x5B :: o.bytes) ∧
    NoOps (.ill5C o) (0x5C :: o.bytes) ∧
    NoOps (.ill5F o) (0x5F :: o.bytes) ∧
    NoOps (.ill62 o) (0x62 :: o.bytes) ∧
    NoOps (.ill63 o) (0x63 :: o.bytes) ∧
    NoOps (.ill64 o) (0x64 :: o.bytes) ∧
    NoOps (.ill67 o) (0x67 :: o.bytes) ∧
    NoOps (.ill6B o) (0x6B :: o.bytes) ∧
    NoOps (.ill6F o) (0x6F :: o.bytes) ∧
    NoOps (.ill72 o) (0x72 :: o.bytes) ∧
    NoOps (.ill73 o) (0x73 :: o.bytes) ∧
    NoOps (.ill74 o) (0x74 :: o.bytes) ∧
    NoOps (.ill77 o) (0x77 :: o.bytes) ∧
    NoOps (.ill7A o) (0x7A :: o.bytes) ∧
    NoOps (.ill7B o) (0x7B :: o.bytes) ∧
    NoOps (.ill7C o) (0x7C :: o.bytes) ∧
    NoOps (.ill7F o) (0x7F :: o.bytes) ∧
    NoOps (.ill80 o) (0x80 :: o.bytes) ∧
    NoOps (.ill82 o) (0x82 :: o.bytes) ∧
    NoOps (.ill83 o) (0x83 :: o.bytes) ∧
    NoOps (.ill87 o) (0x87 :: o.bytes) ∧
    NoOps (.ill89 o) (0x89 :: o.bytes) ∧
    NoOps (.ill8B o) (0x8B :: o.bytes) ∧
    NoOps (.ill8F o) (0x8F :: o.bytes) ∧
    NoOps (.ill92 o) (0x92 :: o.bytes) ∧
    NoOps (.ill93 o) (0x93 :: o.bytes) ∧
    NoOps (.ill97 o) (0x97 :: o.bytes) ∧
    NoOps (.ill9B o) (0x9B :: o.bytes) ∧
    NoOps (.ill9C o) (0x9C :: o.bytes) ∧
    NoOps (.ill9E o) (0x9E :: o.bytes) ∧
    NoOps (.ill9F o) (0x9F :: o.bytes) ∧
    NoOps (.illA3 o) (0xA3 :: o.bytes) ∧
    NoOps (.illA7 o) (0xA7 :: o.bytes) ∧
    NoOps (.illAB o) (0xAB :: o.bytes) ∧
    NoOps (.illAF o) (0xAF :: o.bytes) ∧
    NoOps (.illB2 o) (0xB2 :: o.bytes) ∧
    NoOps (.illB3 o) (0xB3 :: o.bytes) ∧
    NoOps (.illB7 o) (0xB7 :: o.bytes) ∧
    NoOps (.illBB o) (0xBB :: o.bytes) ∧
    NoOps (.illBF o) (0xBF :: o.bytes) ∧
    NoOps (.illC2 o) (0xC2 :: o.bytes) ∧
    NoOps (.illC3 o) (0xC3 :: o.bytes) ∧
    NoOps (.illC7 o) (0xC7 :: o.bytes) ∧
    NoOps (.illCB o) (0xCB :: o.bytes) ∧
    NoOps (.illCF o) (0xCF :: o.bytes) ∧
    NoOps (.illD2 o) (0xD2 :: o.bytes) ∧
    NoOps (.illD3 o) (0xD3 :: o.bytes) ∧
    NoOps (.illD4 o) (0xD4 :: o.bytes) ∧
    NoOps (.illD7 o) (0xD7 :: o.bytes) ∧
    NoOps (.illDA o) (0xDA :: o.bytes) ∧
    NoOps (.illDB o) (0xDB :: o.bytes) ∧
    NoOps (.illDC o) (0xDC :: o.bytes) ∧
    NoOps (.illDF o) (0xDF :: o.bytes) ∧
    NoOps (.illE2 o) (0xE2 :: o.bytes) ∧
    NoOps (.illE3 o) (0xE3 :: o.bytes) ∧
    NoOps (.illE7 o) (0xE7 :: o.bytes) ∧
    NoOps (.illEB o) (0xEB :: o.bytes) ∧
    NoOps (.illEF o) (0xEF :: o.bytes) ∧
    NoOps (.illF2 o) (0xF2 :: o.bytes) ∧
    NoOps (.illF3 o) (0xF3 :: o.bytes) ∧
    NoOps (.illF4 o) (0xF4 :: o.bytes) ∧
    NoOps (.illF7 o) (0xF7 :: o.bytes) ∧
    NoOps (.illFA o) (0xFA :: o.bytes) ∧
    NoOps (.illFB o) (0xFB :: o.bytes) ∧
    NoOps (.illFC o) (0xFC :: o.bytes) ∧
    NoOps (.illFF o) (0xFF :: o.bytes)

/-- When interrupt is the transition asked for: with I set, nothing changes but the model's own fields (its request is taken and the record of bus transactions is empty); with I clear, the entry sequence runs with PC as the return address, bit 4 of the pushed status 0, and the vector at 0xFFFE, with its five bus transactions in order. The spec's own choices, no rule of its source (92_eei_decisions.md): the places of I and D in the status byte (D5); the stack byte a push writes (D6); the order and number of bus transactions (D9); who writes the stored B and U (D10); that an entry changes no flag but I (D18). The model's own, no rule of the spec (notes/assumptions): BUS as data, with what stands behind an address and the count of device reads (log 1); the list of requests (log 6); the mark of the first reset (log 7); the record of bus transactions (log 8). -/
def Obligations.InterruptIsMaskedOrTaken : Prop :=
  ∀ s : State, s.resetDone = true → s.nextRequest = .interrupt →
    (s.p.i = true → step s = .next { s with requests := s.requests.tail, bus := [] }) ∧
    (s.p.i = false → ∃ t, step s = .next t ∧ Entered { s with requests := s.requests.tail, bus := [] } t s.pc false 0xFFFE)

/-- When nmi is the transition asked for, the entry sequence runs with PC as the return address, bit 4 of the pushed status 0, and the vector at 0xFFFA, whatever I is, with its five bus transactions in order; the request is taken. The spec's own choices, no rule of its source (92_eei_decisions.md): the places of I and D in the status byte (D5); the stack byte a push writes (D6); the order and number of bus transactions (D9); who writes the stored B and U (D10); the vector of nmi (D15); that an entry changes no flag but I (D18). The model's own, no rule of the spec (notes/assumptions): BUS as data, with what stands behind an address and the count of device reads (log 1); the list of requests (log 6); the mark of the first reset (log 7); the record of bus transactions (log 8). -/
def Obligations.NmiIsAlwaysTaken : Prop :=
  ∀ s : State, s.resetDone = true → s.nextRequest = .nmi →
    ∃ t, step s = .next t ∧ Entered { s with requests := s.requests.tail, bus := [] } t s.pc false 0xFFFA

/-- When reset is the transition asked for, in any state, before or after the first reset, A, X and Y become 0, SP 0xFF, the status 0x30, and PC the little-endian word the environment answers at 0xFFFC with its two reads in the vector configuration, or START_ADDRESS with no bus transaction in the fixed one; memory and parameters are unchanged. Of the model's own fields, the request is taken, the mark of the first reset is set, and the reads are recorded and counted. The spec's own choices, no rule of its source (92_eei_decisions.md): RESET_PC_SOURCE and START_ADDRESS (D4); the order and number of bus transactions (D9). The model's own, no rule of the spec (notes/assumptions): BUS as data, with what stands behind an address and the count of device reads (log 1); the list of requests (log 6); the mark of the first reset (log 7); the record of bus transactions (log 8). -/
def Obligations.ResetOverwritesRegisterFile : Prop :=
  ∀ (s : State) (lo hi : Byte), s.nextRequest = .reset → s.answers [0xFFFC, 0xFFFD] = [lo, hi] →
    ∃ t, step s = .next t ∧ t.p.byte = 0x30 ∧
      t = { s with
        a := 0, x := 0, y := 0, sp := 0xFF, p := t.p, resetDone := true, requests := s.requests.tail
        pc := if s.config.resetPcSource = .vector then wordOf hi lo else s.config.startAddress
        bus := if s.config.resetPcSource = .vector then [.read 0xFFFC lo, .read 0xFFFD hi] else []
        deviceReads := if s.config.resetPcSource = .vector then (s.afterReads [0xFFFC, 0xFFFD]).deviceReads
          else s.deviceReads }

/-- For every return address, break bit and vector, also one in the stack page, the entry sequence writes the high and low byte of the return address and the packed status to the stack addresses of SP, SP - 1 and SP - 2 (memory holds them where RAM stands behind those addresses), leaves every other address of memory as it was, loads PC little-endian from what the environment answers at the vector after those writes, takes three from SP modulo 256, sets I, and changes nothing else; D is not cleared. The spec's own choices, no rule of its source (92_eei_decisions.md): the places of I and D in the status byte (D5); the stack byte a push writes (D6); the order and number of bus transactions (D9); who writes the stored B and U (D10); that an entry changes no flag but I (D18). The model's own, no rule of the spec (notes/assumptions): BUS as data, with what stands behind an address and the count of device reads (log 1); the record of bus transactions (log 8). -/
def Obligations.EntrySequenceIsCommon : Prop :=
  ∀ (s : State) (ret : Word) (b : Bool) (vec : Word) (t u : State) (lo hi : Byte), t = s.enter ret b vec →
    u = { s with mem := t.mem } → u.answers [vec, vec + 1] = [lo, hi] →
    ∃ status, IsPacked status b s.p ∧
      WritesBytes s t
        [(stackAddr s.sp, hiByte ret), (stackAddr (s.sp - 1), loByte ret), (stackAddr (s.sp - 2), status)] ∧
      t.pc.toNat = 256 * hi.toNat + lo.toNat ∧
      t = { s with
        sp := s.sp - 3
        pc := t.pc
        p := { s.p with i := true }
        mem := t.mem
        deviceReads := (u.afterReads [vec, vec + 1]).deviceReads
        bus := s.bus ++ [.write (stackAddr s.sp) (hiByte ret), .write (stackAddr (s.sp - 1)) (loByte ret),
          .write (stackAddr (s.sp - 2)) status, .read vec lo, .read (vec + 1) hi] }

/-- Where the stack page is RAM, which the environment owes a program before its first push, running RTI right after an entry with any return address, break bit and vector answers the state with PC the return address, SP, A, X, Y and the flags N V D I Z C as before the entry, B 0 and U 1; SP may wrap in either direction. The spec's own choices, no rule of its source (92_eei_decisions.md): who writes the stored B and U (D10); that an entry changes no flag but I (D18). The model's own, no rule of the spec (notes/assumptions): BUS as data, with what stands behind an address and the count of device reads (log 1). -/
def Obligations.RtiUndoesEntry : Prop :=
  ∀ (s : State) (ret : Word) (b : Bool) (vec : Word), s.StackIsRam → ∃ t, exec .rti (s.enter ret b vec) = .next t ∧
    t.pc = ret ∧ t.sp = s.sp ∧ t.a = s.a ∧ t.x = s.x ∧ t.y = s.y ∧ t.p = { s.p with b := false, u := true }

/-- With nmi and then interrupt asked for, the second transition changes nothing but the request list and the record of bus transactions; with interrupt and then nmi asked for and I clear, PC is first the IRQ handler and then the NMI handler, six bytes are pushed, and, where the stack page is RAM, RTI from there returns to the IRQ handler. The spec's own choices, no rule of its source (92_eei_decisions.md): the order and number of bus transactions (D9); that any order of requests is admitted (D14); the vector of nmi (D15). The model's own, no rule of the spec (notes/assumptions): BUS as data, with what stands behind an address and the count of device reads (log 1); the list of requests (log 6); the mark of the first reset (log 7); the record of bus transactions (log 8). -/
def Obligations.NmiBeforeInterruptDropsIt : Prop :=
  ∀ (s : State) (rs : List Request), s.resetDone = true →
    (s.requests = .nmi :: .interrupt :: rs → ∃ t, step s = .next t ∧
      step t = .next { t with requests := rs, bus := [] }) ∧
    (∀ irqLo irqHi nmiLo nmiHi : Byte, s.requests = .interrupt :: .nmi :: rs → s.p.i = false →
      s.answers [0xFFFE, 0xFFFF, 0xFFFA, 0xFFFB] = [irqLo, irqHi, nmiLo, nmiHi] →
      ∃ t u, step s = .next t ∧ step t = .next u ∧ t.pc = wordOf irqHi irqLo ∧ u.sp = s.sp - 6 ∧
        u.pc = wordOf nmiHi nmiLo ∧
        (s.StackIsRam → ∃ v, exec .rti u = .next v ∧ v.pc = wordOf irqHi irqLo ∧ v.sp = s.sp - 3))

/-- Where the stack page is RAM, for every target and every state, running JSR and then, in the state it answers with any PC, A, X, Y and flags, RTS, gives PC the address after the JSR, and SP as before. The spec's own choice, no rule of its source (92_eei_decisions.md): the stack byte a push writes (D6). The model's own, no rule of the spec (notes/assumptions): BUS as data, with what stands behind an address and the count of device reads (log 1). -/
def Obligations.RtsReturnsAfterJsr : Prop :=
  ∀ (s : State) (a16 pc' : Word) (a x y : Byte) (p : Status), s.StackIsRam → ∃ t u, exec (.jsr a16) s = .next t ∧
    exec .rts { t with pc := pc', a := a, x := x, y := y, p := p } = .next u ∧ u.pc = s.pc ∧ u.sp = s.sp

/-- Where the stack page is RAM, for every state, PHA and then PLA, whatever A became between, restores A and SP and sets Z and N from it; PHP and then PLP, whatever the flags became between, restores C, Z, I, D, V, N and SP and leaves B 0 and U 1. The spec's own choices, no rule of its source (92_eei_decisions.md): who writes the stored B and U (D10); the flags of PLA (D11). The model's own, no rule of the spec (notes/assumptions): BUS as data, with what stands behind an address and the count of device reads (log 1). -/
def Obligations.PullAfterPushRestores : Prop :=
  ∀ (s : State) (w : Byte) (p : Status), s.StackIsRam →
    (∃ t u, exec .pha s = .next t ∧ exec .pla { t with a := w } = .next u ∧
      u.a = s.a ∧ u.sp = s.sp ∧ u.p = withZN s.p s.a) ∧
    (∃ t u, exec .php s = .next t ∧ exec .plp { t with p := p } = .next u ∧
      u.p = { s.p with b := false, u := true } ∧ u.sp = s.sp)

/-- For every A, operand and carry, ADC and then SBC of the same operand with the carry set to the complement of the carry that went into the ADC gives A back. -/
def Obligations.SbcUndoesAdc : Prop :=
  ∀ (s : State) (v : Byte), ∃ t u, exec (.adcImm v) s = .next t ∧
    exec (.sbcImm v) { t with p := { t.p with c := !s.p.c } } = .next u ∧ u.a = s.a

/-- For every state, nine runs of ROL A answer a state with A and C as before, so do nine runs of ROR A, and so does ROL A followed by ROR A. The spec's own choice, no rule of its source (92_eei_decisions.md): the results and flags of the shifts (D12). -/
def Obligations.NineRotatesRestore : Prop :=
  ∀ s : State,
    (∃ t, execTimes .rolA 9 s = .next t ∧ t.a = s.a ∧ t.p.c = s.p.c) ∧
    (∃ t, execTimes .rorA 9 s = .next t ∧ t.a = s.a ∧ t.p.c = s.p.c) ∧
    (∃ t u, exec .rolA s = .next t ∧ exec .rorA t = .next u ∧ u.a = s.a ∧ u.p.c = s.p.c)

/-- SetZN writes Z as whether the byte is 0 and N as its bit 7 and no other flag; PackP gives the byte of the flags with bit 5 set and bit 4 the given bit; UnpackP takes the flags from their bits with B 0 and U 1. The spec's own choices, no rule of its source (92_eei_decisions.md): the places of I and D in the status byte (D5); who writes the stored B and U (D10). -/
def Obligations.StatusByteLayout : Prop :=
  (∀ (p : Status) (v : Byte), p.setZN v = withZN p v) ∧ (∀ (b : Bool) (p : Status), IsPacked (packP b p) b p) ∧
    (∀ v : Byte, unpackP v = unpacked v)

/-- The stack address of SP is 0x100 + SP; Push writes to it (memory holds the byte where RAM stands behind it) and then takes one from SP modulo 256; Pull adds one to SP modulo 256 and reads there; a word is pushed high byte first and pulled low byte first; nothing else but the record of bus transactions and the count of device reads changes. The spec's own choice, no rule of its source (92_eei_decisions.md): the stack byte a push writes (D6). The model's own, no rule of the spec (notes/assumptions): BUS as data, with what stands behind an address and the count of device reads (log 1); the record of bus transactions (log 8). -/
def Obligations.StackPrimitives : Prop :=
  (∀ sp, (stackAddr sp).toNat = 0x100 + sp.toNat) ∧
    (∀ (s : State) (v : Byte), WritesByte s (s.push v) (stackAddr s.sp) v ∧
      s.push v = { s with sp := s.sp - 1, mem := (s.push v).mem, bus := s.bus ++ [.write (stackAddr s.sp) v] }) ∧
    (∀ (s : State) (v : Byte), v = s.answerAt (stackAddr (s.sp + 1)) →
      s.pull = (v, { s.afterReads [stackAddr (s.sp + 1)] with sp := s.sp + 1 })) ∧
    (∀ (s : State) (w : Word), s.pushWord w = (s.push (hiByte w)).push (loByte w)) ∧
    (∀ s : State, s.pullWord = (wordOf s.pull.2.pull.1 s.pull.1, s.pull.2.pull.2))

/-- In State.reset A, X and Y are 0, SP is 0xFF, the status byte is 0x30 with I clear, and PC is the word memory holds at the reset vector. The vector as the source of PC, memory with nothing listed and plain RAM as BUS are the model's choices (assumption log 5, 2 and 1). -/
def Obligations.ResetStateIsLiteral : Prop :=
  State.reset.a = 0 ∧ State.reset.x = 0 ∧ State.reset.y = 0 ∧ State.reset.sp = 0xFF ∧ State.reset.p.byte = 0x30 ∧
    State.reset.p.i = false ∧ State.reset.mem = [] ∧
    State.reset.pc = wordOf (State.reset.byteAt 0xFFFD) (State.reset.byteAt 0xFFFC) ∧
    State.reset.config.bus = Bus.plainRam

/-- A read of an address with RAM or ROM behind it returns the byte memory holds and changes nothing; a read of a device address returns the next answer BUS lists, or a free value where it lists none, and moves the count of device reads on; a write is kept in memory where RAM stands behind the address and nowhere else, and changes no register or flag; every read and write is recorded. Reads one after the other are single reads one after the other. For every list of addresses and every bytes of its length there is a BUS that answers reads of those addresses with those bytes: CORE assumes nothing about the environment, not even that two reads of one address agree. The spec's own choice, no rule of its source (92_eei_decisions.md): BUS as a parameter (D23). The model's own, no rule of the spec (notes/assumptions): BUS as data, with what stands behind an address and the count of device reads (log 1); the record of bus transactions (log 8). -/
def Obligations.EnvironmentAnswersReadsAndTakesWrites : Prop :=
  (∀ (s : State) (addr : Word), s.config.bus.backingOf addr ≠ .device →
    s.memRead addr = (s.byteAt addr, { s with bus := s.bus ++ [.read addr (s.byteAt addr)] })) ∧
  (∀ (s : State) (addr : Word) (v : Byte), s.config.bus.backingOf addr = .device →
    v = (s.config.bus.answers[s.deviceReads]?).getD (freeAnswer s.deviceReads) →
    s.memRead addr = (v, { s with bus := s.bus ++ [.read addr v], deviceReads := s.deviceReads + 1 })) ∧
  (∀ (s : State) (addr : Word) (v : Byte), WritesByte s (s.memWrite addr v) addr v ∧
    s.memWrite addr v = { s with mem := (s.memWrite addr v).mem, bus := s.bus ++ [.write addr v] } ∧
    (s.config.bus.backingOf addr ≠ .ram → (s.memWrite addr v).mem = s.mem)) ∧
  (∀ (s : State) (addr : Word) (rest : List Word),
    s.answers (addr :: rest) = (s.memRead addr).1 :: (s.memRead addr).2.answers rest ∧
    s.afterReads (addr :: rest) = (s.memRead addr).2.afterReads rest) ∧
  (∀ (s : State) (addrs : List Word) (bytes : List Byte), addrs.length = bytes.length →
    ∃ b : Bus, State.answers { s with config := { s.config with bus := b } } addrs = bytes)

end
end

