-- ==== Sys2Proof/Laws/Memory.lean ====
section
/-! SUPPORT. The laws of memory: a read after a write, and the canonical form kept by every operation. -/

namespace Sys2Proof.Machine

@[simp] theorem Memory.read_nil (a : Nat) : Memory.read [] a = unlistedByte := rfl

theorem Memory.read_insert (m : Memory) (a b : Nat) (v : Byte) :
    (m.insert a v).read b = if b = a then v else m.read b := by
  induction m with
  | nil => simp [Memory.insert, Memory.read, eq_comm]
  | cons c rest ih =>
    simp only [Memory.insert]
    split
    · simp [Memory.read, eq_comm]
    · split
      · subst_vars
        by_cases hb : b = c.1
        · simp [Memory.read, hb]
        · have : c.1 ≠ b := fun h => hb h.symm
          simp [Memory.read, hb, this]
      · rename_i hlt hne
        simp only [Memory.read, ih]
        by_cases hc : c.1 = b
        · have : b ≠ a := fun h => hne (h ▸ hc.symm)
          simp [hc, this]
        · simp [hc]

theorem Memory.read_erase (m : Memory) (a b : Nat) :
    Memory.read (m.filter (fun c => c.1 != a)) b = if b = a then unlistedByte else m.read b := by
  induction m with
  | nil => simp
  | cons c rest ih =>
    by_cases hc : c.1 = a
    · simp only [List.filter_cons, hc, bne_self_eq_false, Bool.false_eq_true, if_false, ih, Memory.read]
      by_cases hb : b = a
      · simp [hb]
      · have : a ≠ b := fun h => hb h.symm
        simp [hb, this]
    · simp only [List.filter_cons, bne_iff_ne, ne_eq, hc, not_false_eq_true, if_true, Memory.read, ih]
      by_cases hb : c.1 = b
      · have : b ≠ a := fun h => hc (hb.trans h)
        simp [hb, this]
      · simp [hb]

/-- A read gives the byte last written at its address, and a write leaves every other address alone
(20_memory.md R52). -/
theorem Memory.read_write (m : Memory) (a b : Nat) (v : Byte) :
    (m.write a v).read b = if b = a then v else m.read b := by
  unfold Memory.write
  split
  · subst_vars; exact m.read_erase a b
  · exact m.read_insert a b v

/-- Every address listed after an insertion is the one inserted or was listed before. -/
theorem Memory.mem_insert {m : Memory} {a : Nat} {v : Byte} {c : Host.Cell} (h : c ∈ m.insert a v) :
    c = (a, v) ∨ c ∈ m := by
  induction m with
  | nil => simpa [Memory.insert] using h
  | cons d rest ih =>
    simp only [Memory.insert] at h
    split at h
    · simpa using h
    · split at h
      · rcases List.mem_cons.1 h with h | h
        · exact .inl h
        · exact .inr (List.mem_cons_of_mem _ h)
      · rcases List.mem_cons.1 h with h | h
        · exact .inr (h ▸ List.mem_cons_self)
        · exact (ih h).imp_right (List.mem_cons_of_mem _)

theorem Memory.insert_pairwise {m : Memory} (a : Nat) (v : Byte)
    (h : m.Pairwise (fun c d => c.1 < d.1)) : (m.insert a v).Pairwise (fun c d => c.1 < d.1) := by
  induction m with
  | nil => simp [Memory.insert]
  | cons d rest ih =>
    obtain ⟨hd, hrest⟩ := List.pairwise_cons.1 h
    simp only [Memory.insert]
    split
    · rename_i hlt
      refine List.pairwise_cons.2 ⟨fun c hc => ?_, h⟩
      rcases List.mem_cons.1 hc with hc | hc
      · exact hc ▸ hlt
      · exact Nat.lt_trans hlt (hd c hc)
    · split
      · rename_i heq
        exact List.pairwise_cons.2 ⟨fun c hc => heq ▸ hd c hc, hrest⟩
      · rename_i hlt hne
        refine List.pairwise_cons.2 ⟨fun c hc => ?_, ih hrest⟩
        rcases Memory.mem_insert hc with hc | hc
        · subst hc; simp only; omega
        · exact hd c hc

/-- Every write inside the address space keeps the canonical form. -/
theorem Memory.write_wf {m : Memory} {a : Nat} (v : Byte) (h : m.wf) (ha : a < 65536) : (m.write a v).wf := by
  unfold Memory.write
  split
  · exact ⟨h.1.filter _, fun c hc => h.2 c (List.mem_of_mem_filter hc)⟩
  · rename_i hv
    refine ⟨Memory.insert_pairwise a v h.1, fun c hc => ?_⟩
    rcases Memory.mem_insert hc with rfl | hc
    · exact ⟨ha, hv⟩
    · exact h.2 c hc

theorem Memory.nil_wf : Memory.wf [] := ⟨.nil, by simp⟩

/-- Equal contents make equal lists: what the canonical form is for. -/
theorem Memory.eq_of_read_eq {m₁ m₂ : Memory} (h₁ : m₁.wf) (h₂ : m₂.wf) (h : ∀ a, m₁.read a = m₂.read a) :
    m₁ = m₂ := by
  induction m₁ generalizing m₂ with
  | nil =>
    cases m₂ with
    | nil => rfl
    | cons d rest =>
      have := h d.1
      simp [Memory.read] at this
      exact absurd this.symm (h₂.2 d (by simp)).2
  | cons c rest ih =>
    cases m₂ with
    | nil =>
      have := h c.1
      simp [Memory.read] at this
      exact absurd this (h₁.2 c (by simp)).2
    | cons d rest' =>
      have absent : ∀ {l : Memory} {b : Nat}, (∀ e ∈ l, b < e.1) → l.read b = unlistedByte := by
        intro l b hl
        induction l with
        | nil => rfl
        | cons e l ih =>
          have := hl e (by simp)
          simp only [Memory.read, if_neg (by omega : ¬e.1 = b)]
          exact ih fun f hf => hl f (List.mem_cons_of_mem _ hf)
      obtain ⟨hc, hp₁⟩ := List.pairwise_cons.1 h₁.1
      obtain ⟨hd, hp₂⟩ := List.pairwise_cons.1 h₂.1
      have key : c.1 = d.1 := by
        by_contra hne
        rcases Nat.lt_or_gt_of_ne hne with hlt | hlt
        · have := h c.1
          rw [absent (l := d :: rest') (b := c.1) (by
            intro e he
            rcases List.mem_cons.1 he with he | he
            · exact he ▸ hlt
            · exact Nat.lt_trans hlt (hd e he))] at this
          exact (h₁.2 c (by simp)).2 (by simpa [Memory.read] using this)
        · have := h d.1
          rw [absent (l := c :: rest) (b := d.1) (by
            intro e he
            rcases List.mem_cons.1 he with he | he
            · exact he ▸ hlt
            · exact Nat.lt_trans hlt (hc e he))] at this
          exact (h₂.2 d (by simp)).2 (by simpa [Memory.read] using this.symm)
      have val : c.2 = d.2 := by
        have := h c.1
        simpa [Memory.read, key] using this
      have tail : rest = rest' := by
        refine ih ⟨hp₁, fun e he => h₁.2 e (List.mem_cons_of_mem _ he)⟩
          ⟨hp₂, fun e he => h₂.2 e (List.mem_cons_of_mem _ he)⟩ fun a => ?_
        by_cases ha : c.1 = a
        · rw [absent (b := a) (fun e he => ha ▸ hc e he), absent (b := a) (fun e he => ha ▸ key ▸ hd e he)]
        · have := h a
          simpa [Memory.read, ha, key ▸ ha] using this
      exact List.cons_eq_cons.2 ⟨Prod.ext key val, tail⟩

end Sys2Proof.Machine
end

