-- ==== Sys2Proof/Laws/Bus.lean ====
section
/-! SUPPORT. What the environment answers and keeps, by what stands behind the address. -/

namespace Sys2Proof

open Machine

variable (b : Bus) (m : Memory) (n : Nat) (addr : Word)

@[simp] theorem Bus.backingOf_plainRam : Bus.plainRam.backingOf addr = .ram := rfl

/-- Memory answers with the byte it holds (20_memory.md R52). -/
theorem Bus.answer_of_ne_device {b : Bus} {addr : Word} (h : b.backingOf addr ≠ .device) :
    b.answer m n addr = m.read addr.toNat := by
  unfold Bus.answer
  split <;> first | rfl | exact absurd ‹_› h

/-- A device answers as BUS lists (R50). -/
theorem Bus.answer_of_device {b : Bus} {addr : Word} (h : b.backingOf addr = .device) :
    b.answer m n addr = (b.answers[n]?).getD (freeAnswer n) := by
  simp [Bus.answer, h]

theorem Bus.countRead_of_ne_device {b : Bus} {addr : Word} (h : b.backingOf addr ≠ .device) :
    b.countRead n addr = n := by
  unfold Bus.countRead
  split <;> first | rfl | exact absurd ‹_› h

theorem Bus.countRead_of_device {b : Bus} {addr : Word} (h : b.backingOf addr = .device) :
    b.countRead n addr = n + 1 := by
  simp [Bus.countRead, h]

theorem Bus.store_of_ram {b : Bus} {addr : Word} (h : b.backingOf addr = .ram) (v : Byte) :
    b.store m addr v = m.write addr.toNat v := by
  simp [Bus.store, h]

theorem Bus.store_of_ne_ram {b : Bus} {addr : Word} (h : b.backingOf addr ≠ .ram) (v : Byte) :
    b.store m addr v = m := by
  unfold Bus.store
  split <;> first | rfl | exact absurd ‹_› h

/-- What memory holds after a write: the byte at its address where RAM stands behind it, and everything else as before
(R51, R52). -/
theorem Bus.read_store (v : Byte) (w : Word) :
    (b.store m addr v).read w.toNat =
      if w = addr ∧ b.backingOf addr = .ram then v else m.read w.toNat := by
  by_cases h : b.backingOf addr = .ram
  · simp [Bus.store_of_ram m h, Memory.read_write, BitVec.toNat_inj, h]
  · simp [Bus.store_of_ne_ram m h, h]

/-- Every write keeps the canonical form of memory. -/
theorem Bus.store_wf {m : Memory} (h : m.wf) (v : Byte) : (b.store m addr v).wf := by
  unfold Bus.store
  split
  · exact Memory.write_wf v h addr.isLt
  · exact h
  · exact h

@[simp] theorem Bus.answers_withRamAt : (b.withRamAt addr).answers = b.answers := rfl

/-- Putting RAM behind one address puts it there and nowhere else. -/
theorem Bus.backingOf_withRamAt (w : Word) :
    (b.withRamAt addr).backingOf w = if w = addr then .ram else b.backingOf w := by
  have hc : BusRegion.covers ⟨addr, addr, .ram⟩ w = decide (w = addr) := by
    rw [BusRegion.covers, ← Bool.decide_and]
    exact decide_eq_decide.2 ⟨fun h => BitVec.le_antisymm h.2 h.1, fun h => h ▸ ⟨BitVec.le_refl _, BitVec.le_refl _⟩⟩
  by_cases h : w = addr
  · subst h
    simp [Bus.backingOf, Bus.withRamAt, hc]
  · simp [Bus.backingOf, Bus.withRamAt, hc, h]

end Sys2Proof
end

