-- ==== Sys2Proof/Laws/Decode.lean ====
section
/-! SUPPORT. What the opcode matrix holds, said once for every opcode byte, and what follows for the decoder's
parts. -/

namespace Sys2Proof

/-- What an entry of the matrix must be to stand at an opcode byte: its instructions have that opcode, the operand
bytes of its format, and an unassigned entry is one of the no-op handler. -/
def Form.SoundAt (opcode : Byte) : Form → Prop
  | .f1 i => i.opcode = opcode ∧ i.operand = .implied ∧ i.handler ≠ .noOp
  | .f2 mk => ∀ d8, (mk d8).opcode = opcode ∧ (mk d8).operand.bytes = [d8] ∧ (mk d8).handler ≠ .noOp
  | .f3 mk => ∀ a16, (mk a16).opcode = opcode ∧ (mk a16).operand.bytes = [loByte a16, hiByte a16] ∧
      (mk a16).handler ≠ .noOp
  | .unassigned mk => ∀ o, (mk o).opcode = opcode ∧ (mk o).operand = o ∧ (mk o).handler = .noOp

/-- A list of entries stands soundly at the opcode bytes from `n` on. -/
def RowSound : Nat → List Form → Prop
  | _, [] => True
  | n, f :: fs => f.SoundAt (BitVec.ofNat 8 n) ∧ RowSound (n + 1) fs

theorem RowSound.getD {n k : Nat} {fs : List Form} (h : RowSound n fs) (hk : k < fs.length) (f : Form) :
    (fs.getD k f).SoundAt (BitVec.ofNat 8 (n + k)) := by
  induction fs generalizing n k with
  | nil => simp at hk
  | cons g fs ih =>
    cases k with
    | zero => exact h.1
    | succ k =>
      have := ih (n := n + 1) (k := k) h.2 (by simpa using hk)
      rwa [show n + 1 + k = n + (k + 1) by omega] at this

theorem RowSound.f1 {n : Nat} {i : Instr} {fs : List Form}
    (h : i.opcode = BitVec.ofNat 8 n ∧ i.operand = .implied ∧ i.handler ≠ .noOp) (t : RowSound (n + 1) fs) :
    RowSound n (.f1 i :: fs) := ⟨h, t⟩

theorem RowSound.f2 {n : Nat} {mk : Byte → Instr} {fs : List Form}
    (h : ∀ d8, (mk d8).opcode = BitVec.ofNat 8 n ∧ (mk d8).operand.bytes = [d8] ∧ (mk d8).handler ≠ .noOp)
    (t : RowSound (n + 1) fs) : RowSound n (.f2 mk :: fs) := ⟨h, t⟩

theorem RowSound.f3 {n : Nat} {mk : Word → Instr} {fs : List Form}
    (h : ∀ a16, (mk a16).opcode = BitVec.ofNat 8 n ∧ (mk a16).operand.bytes = [loByte a16, hiByte a16] ∧
      (mk a16).handler ≠ .noOp) (t : RowSound (n + 1) fs) : RowSound n (.f3 mk :: fs) := ⟨h, t⟩

theorem RowSound.unassigned {n : Nat} {mk : Operand → Instr} {fs : List Form}
    (h : ∀ o, (mk o).opcode = BitVec.ofNat 8 n ∧ (mk o).operand = o ∧ (mk o).handler = .noOp)
    (t : RowSound (n + 1) fs) : RowSound n (.unassigned mk :: fs) := ⟨h, t⟩

theorem opcodeRow0_sound : RowSound 0x00 opcodeRow0 := by
  iterate 16 first
    | refine RowSound.f1 ⟨rfl, rfl, Handler.noConfusion⟩ ?_
    | refine RowSound.f2 (fun _ => ⟨rfl, rfl, Handler.noConfusion⟩) ?_
    | refine RowSound.f3 (fun _ => ⟨rfl, rfl, Handler.noConfusion⟩) ?_
    | refine RowSound.unassigned (fun _ => ⟨rfl, rfl, rfl⟩) ?_
  trivial

theorem opcodeRow1_sound : RowSound 0x10 opcodeRow1 := by
  iterate 16 first
    | refine RowSound.f1 ⟨rfl, rfl, Handler.noConfusion⟩ ?_
    | refine RowSound.f2 (fun _ => ⟨rfl, rfl, Handler.noConfusion⟩) ?_
    | refine RowSound.f3 (fun _ => ⟨rfl, rfl, Handler.noConfusion⟩) ?_
    | refine RowSound.unassigned (fun _ => ⟨rfl, rfl, rfl⟩) ?_
  trivial

theorem opcodeRow2_sound : RowSound 0x20 opcodeRow2 := by
  iterate 16 first
    | refine RowSound.f1 ⟨rfl, rfl, Handler.noConfusion⟩ ?_
    | refine RowSound.f2 (fun _ => ⟨rfl, rfl, Handler.noConfusion⟩) ?_
    | refine RowSound.f3 (fun _ => ⟨rfl, rfl, Handler.noConfusion⟩) ?_
    | refine RowSound.unassigned (fun _ => ⟨rfl, rfl, rfl⟩) ?_
  trivial

theorem opcodeRow3_sound : RowSound 0x30 opcodeRow3 := by
  iterate 16 first
    | refine RowSound.f1 ⟨rfl, rfl, Handler.noConfusion⟩ ?_
    | refine RowSound.f2 (fun _ => ⟨rfl, rfl, Handler.noConfusion⟩) ?_
    | refine RowSound.f3 (fun _ => ⟨rfl, rfl, Handler.noConfusion⟩) ?_
    | refine RowSound.unassigned (fun _ => ⟨rfl, rfl, rfl⟩) ?_
  trivial

theorem opcodeRow4_sound : RowSound 0x40 opcodeRow4 := by
  iterate 16 first
    | refine RowSound.f1 ⟨rfl, rfl, Handler.noConfusion⟩ ?_
    | refine RowSound.f2 (fun _ => ⟨rfl, rfl, Handler.noConfusion⟩) ?_
    | refine RowSound.f3 (fun _ => ⟨rfl, rfl, Handler.noConfusion⟩) ?_
    | refine RowSound.unassigned (fun _ => ⟨rfl, rfl, rfl⟩) ?_
  trivial

theorem opcodeRow5_sound : RowSound 0x50 opcodeRow5 := by
  iterate 16 first
    | refine RowSound.f1 ⟨rfl, rfl, Handler.noConfusion⟩ ?_
    | refine RowSound.f2 (fun _ => ⟨rfl, rfl, Handler.noConfusion⟩) ?_
    | refine RowSound.f3 (fun _ => ⟨rfl, rfl, Handler.noConfusion⟩) ?_
    | refine RowSound.unassigned (fun _ => ⟨rfl, rfl, rfl⟩) ?_
  trivial

theorem opcodeRow6_sound : RowSound 0x60 opcodeRow6 := by
  iterate 16 first
    | refine RowSound.f1 ⟨rfl, rfl, Handler.noConfusion⟩ ?_
    | refine RowSound.f2 (fun _ => ⟨rfl, rfl, Handler.noConfusion⟩) ?_
    | refine RowSound.f3 (fun _ => ⟨rfl, rfl, Handler.noConfusion⟩) ?_
    | refine RowSound.unassigned (fun _ => ⟨rfl, rfl, rfl⟩) ?_
  trivial

theorem opcodeRow7_sound : RowSound 0x70 opcodeRow7 := by
  iterate 16 first
    | refine RowSound.f1 ⟨rfl, rfl, Handler.noConfusion⟩ ?_
    | refine RowSound.f2 (fun _ => ⟨rfl, rfl, Handler.noConfusion⟩) ?_
    | refine RowSound.f3 (fun _ => ⟨rfl, rfl, Handler.noConfusion⟩) ?_
    | refine RowSound.unassigned (fun _ => ⟨rfl, rfl, rfl⟩) ?_
  trivial

theorem opcodeRow8_sound : RowSound 0x80 opcodeRow8 := by
  iterate 16 first
    | refine RowSound.f1 ⟨rfl, rfl, Handler.noConfusion⟩ ?_
    | refine RowSound.f2 (fun _ => ⟨rfl, rfl, Handler.noConfusion⟩) ?_
    | refine RowSound.f3 (fun _ => ⟨rfl, rfl, Handler.noConfusion⟩) ?_
    | refine RowSound.unassigned (fun _ => ⟨rfl, rfl, rfl⟩) ?_
  trivial

theorem opcodeRow9_sound : RowSound 0x90 opcodeRow9 := by
  iterate 16 first
    | refine RowSound.f1 ⟨rfl, rfl, Handler.noConfusion⟩ ?_
    | refine RowSound.f2 (fun _ => ⟨rfl, rfl, Handler.noConfusion⟩) ?_
    | refine RowSound.f3 (fun _ => ⟨rfl, rfl, Handler.noConfusion⟩) ?_
    | refine RowSound.unassigned (fun _ => ⟨rfl, rfl, rfl⟩) ?_
  trivial

theorem opcodeRowA_sound : RowSound 0xA0 opcodeRowA := by
  iterate 16 first
    | refine RowSound.f1 ⟨rfl, rfl, Handler.noConfusion⟩ ?_
    | refine RowSound.f2 (fun _ => ⟨rfl, rfl, Handler.noConfusion⟩) ?_
    | refine RowSound.f3 (fun _ => ⟨rfl, rfl, Handler.noConfusion⟩) ?_
    | refine RowSound.unassigned (fun _ => ⟨rfl, rfl, rfl⟩) ?_
  trivial

theorem opcodeRowB_sound : RowSound 0xB0 opcodeRowB := by
  iterate 16 first
    | refine RowSound.f1 ⟨rfl, rfl, Handler.noConfusion⟩ ?_
    | refine RowSound.f2 (fun _ => ⟨rfl, rfl, Handler.noConfusion⟩) ?_
    | refine RowSound.f3 (fun _ => ⟨rfl, rfl, Handler.noConfusion⟩) ?_
    | refine RowSound.unassigned (fun _ => ⟨rfl, rfl, rfl⟩) ?_
  trivial

theorem opcodeRowC_sound : RowSound 0xC0 opcodeRowC := by
  iterate 16 first
    | refine RowSound.f1 ⟨rfl, rfl, Handler.noConfusion⟩ ?_
    | refine RowSound.f2 (fun _ => ⟨rfl, rfl, Handler.noConfusion⟩) ?_
    | refine RowSound.f3 (fun _ => ⟨rfl, rfl, Handler.noConfusion⟩) ?_
    | refine RowSound.unassigned (fun _ => ⟨rfl, rfl, rfl⟩) ?_
  trivial

theorem opcodeRowD_sound : RowSound 0xD0 opcodeRowD := by
  iterate 16 first
    | refine RowSound.f1 ⟨rfl, rfl, Handler.noConfusion⟩ ?_
    | refine RowSound.f2 (fun _ => ⟨rfl, rfl, Handler.noConfusion⟩) ?_
    | refine RowSound.f3 (fun _ => ⟨rfl, rfl, Handler.noConfusion⟩) ?_
    | refine RowSound.unassigned (fun _ => ⟨rfl, rfl, rfl⟩) ?_
  trivial

theorem opcodeRowE_sound : RowSound 0xE0 opcodeRowE := by
  iterate 16 first
    | refine RowSound.f1 ⟨rfl, rfl, Handler.noConfusion⟩ ?_
    | refine RowSound.f2 (fun _ => ⟨rfl, rfl, Handler.noConfusion⟩) ?_
    | refine RowSound.f3 (fun _ => ⟨rfl, rfl, Handler.noConfusion⟩) ?_
    | refine RowSound.unassigned (fun _ => ⟨rfl, rfl, rfl⟩) ?_
  trivial

theorem opcodeRowF_sound : RowSound 0xF0 opcodeRowF := by
  iterate 16 first
    | refine RowSound.f1 ⟨rfl, rfl, Handler.noConfusion⟩ ?_
    | refine RowSound.f2 (fun _ => ⟨rfl, rfl, Handler.noConfusion⟩) ?_
    | refine RowSound.f3 (fun _ => ⟨rfl, rfl, Handler.noConfusion⟩) ?_
    | refine RowSound.unassigned (fun _ => ⟨rfl, rfl, rfl⟩) ?_
  trivial

/-- The matrix entry of row `r` and column `c`, for every row. -/
theorem opcodeMatrix_sound {r c : Nat} (hr : r < 16) (hc : c < 16) :
    ((opcodeMatrix.getD r []).getD c (.f1 .nop)).SoundAt (BitVec.ofNat 8 (16 * r + c)) := by
  interval_cases r
  · exact opcodeRow0_sound.getD hc _
  · exact opcodeRow1_sound.getD hc _
  · exact opcodeRow2_sound.getD hc _
  · exact opcodeRow3_sound.getD hc _
  · exact opcodeRow4_sound.getD hc _
  · exact opcodeRow5_sound.getD hc _
  · exact opcodeRow6_sound.getD hc _
  · exact opcodeRow7_sound.getD hc _
  · exact opcodeRow8_sound.getD hc _
  · exact opcodeRow9_sound.getD hc _
  · exact opcodeRowA_sound.getD hc _
  · exact opcodeRowB_sound.getD hc _
  · exact opcodeRowC_sound.getD hc _
  · exact opcodeRowD_sound.getD hc _
  · exact opcodeRowE_sound.getD hc _
  · exact opcodeRowF_sound.getD hc _

/-- Every opcode byte has a sound entry (30_encoding.md R83). -/
theorem opcodeForm_sound (opcode : Byte) : (opcodeForm opcode).SoundAt opcode := by
  have := opcodeMatrix_sound (r := opcode.toNat / 16) (c := opcode.toNat % 16) (by have := opcode.isLt; omega)
    (Nat.mod_lt _ (by decide))
  rwa [Nat.div_add_mod, BitVec.ofNat_toNat, BitVec.setWidth_eq] at this

end Sys2Proof
end

