-- ==== Sys2Proof/Laws/State.lean ====
section
/-! SUPPORT. One lemma for each field of State under each update, so that no proof unfolds a record update. -/

namespace Sys2Proof.Machine

variable (s : State)

@[simp] theorem State.setA_a (v : Byte) : (s.setA v).a = v := rfl
@[simp] theorem State.setA_x (v : Byte) : (s.setA v).x = s.x := rfl
@[simp] theorem State.setA_y (v : Byte) : (s.setA v).y = s.y := rfl
@[simp] theorem State.setA_sp (v : Byte) : (s.setA v).sp = s.sp := rfl
@[simp] theorem State.setA_pc (v : Byte) : (s.setA v).pc = s.pc := rfl
@[simp] theorem State.setA_p (v : Byte) : (s.setA v).p = s.p := rfl
@[simp] theorem State.setA_mem (v : Byte) : (s.setA v).mem = s.mem := rfl
@[simp] theorem State.setA_config (v : Byte) : (s.setA v).config = s.config := rfl
@[simp] theorem State.setA_deviceReads (v : Byte) : (s.setA v).deviceReads = s.deviceReads := rfl
@[simp] theorem State.setA_requests (v : Byte) : (s.setA v).requests = s.requests := rfl
@[simp] theorem State.setA_bus (v : Byte) : (s.setA v).bus = s.bus := rfl
@[simp] theorem State.setA_resetDone (v : Byte) : (s.setA v).resetDone = s.resetDone := rfl

@[simp] theorem State.setX_a (v : Byte) : (s.setX v).a = s.a := rfl
@[simp] theorem State.setX_x (v : Byte) : (s.setX v).x = v := rfl
@[simp] theorem State.setX_y (v : Byte) : (s.setX v).y = s.y := rfl
@[simp] theorem State.setX_sp (v : Byte) : (s.setX v).sp = s.sp := rfl
@[simp] theorem State.setX_pc (v : Byte) : (s.setX v).pc = s.pc := rfl
@[simp] theorem State.setX_p (v : Byte) : (s.setX v).p = s.p := rfl
@[simp] theorem State.setX_mem (v : Byte) : (s.setX v).mem = s.mem := rfl
@[simp] theorem State.setX_config (v : Byte) : (s.setX v).config = s.config := rfl
@[simp] theorem State.setX_deviceReads (v : Byte) : (s.setX v).deviceReads = s.deviceReads := rfl
@[simp] theorem State.setX_requests (v : Byte) : (s.setX v).requests = s.requests := rfl
@[simp] theorem State.setX_bus (v : Byte) : (s.setX v).bus = s.bus := rfl
@[simp] theorem State.setX_resetDone (v : Byte) : (s.setX v).resetDone = s.resetDone := rfl

@[simp] theorem State.setY_a (v : Byte) : (s.setY v).a = s.a := rfl
@[simp] theorem State.setY_x (v : Byte) : (s.setY v).x = s.x := rfl
@[simp] theorem State.setY_y (v : Byte) : (s.setY v).y = v := rfl
@[simp] theorem State.setY_sp (v : Byte) : (s.setY v).sp = s.sp := rfl
@[simp] theorem State.setY_pc (v : Byte) : (s.setY v).pc = s.pc := rfl
@[simp] theorem State.setY_p (v : Byte) : (s.setY v).p = s.p := rfl
@[simp] theorem State.setY_mem (v : Byte) : (s.setY v).mem = s.mem := rfl
@[simp] theorem State.setY_config (v : Byte) : (s.setY v).config = s.config := rfl
@[simp] theorem State.setY_deviceReads (v : Byte) : (s.setY v).deviceReads = s.deviceReads := rfl
@[simp] theorem State.setY_requests (v : Byte) : (s.setY v).requests = s.requests := rfl
@[simp] theorem State.setY_bus (v : Byte) : (s.setY v).bus = s.bus := rfl
@[simp] theorem State.setY_resetDone (v : Byte) : (s.setY v).resetDone = s.resetDone := rfl

@[simp] theorem State.setSp_a (v : Byte) : (s.setSp v).a = s.a := rfl
@[simp] theorem State.setSp_x (v : Byte) : (s.setSp v).x = s.x := rfl
@[simp] theorem State.setSp_y (v : Byte) : (s.setSp v).y = s.y := rfl
@[simp] theorem State.setSp_sp (v : Byte) : (s.setSp v).sp = v := rfl
@[simp] theorem State.setSp_pc (v : Byte) : (s.setSp v).pc = s.pc := rfl
@[simp] theorem State.setSp_p (v : Byte) : (s.setSp v).p = s.p := rfl
@[simp] theorem State.setSp_mem (v : Byte) : (s.setSp v).mem = s.mem := rfl
@[simp] theorem State.setSp_config (v : Byte) : (s.setSp v).config = s.config := rfl
@[simp] theorem State.setSp_deviceReads (v : Byte) : (s.setSp v).deviceReads = s.deviceReads := rfl
@[simp] theorem State.setSp_requests (v : Byte) : (s.setSp v).requests = s.requests := rfl
@[simp] theorem State.setSp_bus (v : Byte) : (s.setSp v).bus = s.bus := rfl
@[simp] theorem State.setSp_resetDone (v : Byte) : (s.setSp v).resetDone = s.resetDone := rfl

@[simp] theorem State.setPc_a (w : Word) : (s.setPc w).a = s.a := rfl
@[simp] theorem State.setPc_x (w : Word) : (s.setPc w).x = s.x := rfl
@[simp] theorem State.setPc_y (w : Word) : (s.setPc w).y = s.y := rfl
@[simp] theorem State.setPc_sp (w : Word) : (s.setPc w).sp = s.sp := rfl
@[simp] theorem State.setPc_pc (w : Word) : (s.setPc w).pc = w := rfl
@[simp] theorem State.setPc_p (w : Word) : (s.setPc w).p = s.p := rfl
@[simp] theorem State.setPc_mem (w : Word) : (s.setPc w).mem = s.mem := rfl
@[simp] theorem State.setPc_config (w : Word) : (s.setPc w).config = s.config := rfl
@[simp] theorem State.setPc_deviceReads (w : Word) : (s.setPc w).deviceReads = s.deviceReads := rfl
@[simp] theorem State.setPc_requests (w : Word) : (s.setPc w).requests = s.requests := rfl
@[simp] theorem State.setPc_bus (w : Word) : (s.setPc w).bus = s.bus := rfl
@[simp] theorem State.setPc_resetDone (w : Word) : (s.setPc w).resetDone = s.resetDone := rfl

@[simp] theorem State.setP_a (p : Status) : (s.setP p).a = s.a := rfl
@[simp] theorem State.setP_x (p : Status) : (s.setP p).x = s.x := rfl
@[simp] theorem State.setP_y (p : Status) : (s.setP p).y = s.y := rfl
@[simp] theorem State.setP_sp (p : Status) : (s.setP p).sp = s.sp := rfl
@[simp] theorem State.setP_pc (p : Status) : (s.setP p).pc = s.pc := rfl
@[simp] theorem State.setP_p (p : Status) : (s.setP p).p = p := rfl
@[simp] theorem State.setP_mem (p : Status) : (s.setP p).mem = s.mem := rfl
@[simp] theorem State.setP_config (p : Status) : (s.setP p).config = s.config := rfl
@[simp] theorem State.setP_deviceReads (p : Status) : (s.setP p).deviceReads = s.deviceReads := rfl
@[simp] theorem State.setP_requests (p : Status) : (s.setP p).requests = s.requests := rfl
@[simp] theorem State.setP_bus (p : Status) : (s.setP p).bus = s.bus := rfl
@[simp] theorem State.setP_resetDone (p : Status) : (s.setP p).resetDone = s.resetDone := rfl

@[simp] theorem State.setZN_a (v : Byte) : (s.setZN v).a = s.a := rfl
@[simp] theorem State.setZN_x (v : Byte) : (s.setZN v).x = s.x := rfl
@[simp] theorem State.setZN_y (v : Byte) : (s.setZN v).y = s.y := rfl
@[simp] theorem State.setZN_sp (v : Byte) : (s.setZN v).sp = s.sp := rfl
@[simp] theorem State.setZN_pc (v : Byte) : (s.setZN v).pc = s.pc := rfl
@[simp] theorem State.setZN_p (v : Byte) : (s.setZN v).p = s.p.setZN v := rfl
@[simp] theorem State.setZN_mem (v : Byte) : (s.setZN v).mem = s.mem := rfl
@[simp] theorem State.setZN_config (v : Byte) : (s.setZN v).config = s.config := rfl
@[simp] theorem State.setZN_deviceReads (v : Byte) : (s.setZN v).deviceReads = s.deviceReads := rfl
@[simp] theorem State.setZN_requests (v : Byte) : (s.setZN v).requests = s.requests := rfl
@[simp] theorem State.setZN_bus (v : Byte) : (s.setZN v).bus = s.bus := rfl
@[simp] theorem State.setZN_resetDone (v : Byte) : (s.setZN v).resetDone = s.resetDone := rfl

@[simp] theorem State.memWrite_a (addr : Word) (v : Byte) : (s.memWrite addr v).a = s.a := rfl
@[simp] theorem State.memWrite_x (addr : Word) (v : Byte) : (s.memWrite addr v).x = s.x := rfl
@[simp] theorem State.memWrite_y (addr : Word) (v : Byte) : (s.memWrite addr v).y = s.y := rfl
@[simp] theorem State.memWrite_sp (addr : Word) (v : Byte) : (s.memWrite addr v).sp = s.sp := rfl
@[simp] theorem State.memWrite_pc (addr : Word) (v : Byte) : (s.memWrite addr v).pc = s.pc := rfl
@[simp] theorem State.memWrite_p (addr : Word) (v : Byte) : (s.memWrite addr v).p = s.p := rfl
@[simp] theorem State.memWrite_mem (addr : Word) (v : Byte) :
    (s.memWrite addr v).mem = s.config.bus.store s.mem addr v := rfl
@[simp] theorem State.memWrite_config (addr : Word) (v : Byte) : (s.memWrite addr v).config = s.config := rfl
@[simp] theorem State.memWrite_deviceReads (addr : Word) (v : Byte) : (s.memWrite addr v).deviceReads = s.deviceReads := rfl
@[simp] theorem State.memWrite_requests (addr : Word) (v : Byte) : (s.memWrite addr v).requests = s.requests := rfl
@[simp] theorem State.memWrite_bus (addr : Word) (v : Byte) : (s.memWrite addr v).bus = s.bus ++ [.write addr v] := rfl
@[simp] theorem State.memWrite_resetDone (addr : Word) (v : Byte) : (s.memWrite addr v).resetDone = s.resetDone := rfl

@[simp] theorem State.memRead_value (addr : Word) : (s.memRead addr).1 = s.answerAt addr := rfl
@[simp] theorem State.memRead_a (addr : Word) : (s.memRead addr).2.a = s.a := rfl
@[simp] theorem State.memRead_x (addr : Word) : (s.memRead addr).2.x = s.x := rfl
@[simp] theorem State.memRead_y (addr : Word) : (s.memRead addr).2.y = s.y := rfl
@[simp] theorem State.memRead_sp (addr : Word) : (s.memRead addr).2.sp = s.sp := rfl
@[simp] theorem State.memRead_pc (addr : Word) : (s.memRead addr).2.pc = s.pc := rfl
@[simp] theorem State.memRead_p (addr : Word) : (s.memRead addr).2.p = s.p := rfl
@[simp] theorem State.memRead_mem (addr : Word) : (s.memRead addr).2.mem = s.mem := rfl
@[simp] theorem State.memRead_config (addr : Word) : (s.memRead addr).2.config = s.config := rfl
@[simp] theorem State.memRead_deviceReads (addr : Word) :
    (s.memRead addr).2.deviceReads = s.config.bus.countRead s.deviceReads addr := rfl
@[simp] theorem State.memRead_requests (addr : Word) : (s.memRead addr).2.requests = s.requests := rfl
@[simp] theorem State.memRead_bus (addr : Word) : (s.memRead addr).2.bus = s.bus ++ [.read addr (s.answerAt addr)] := rfl
@[simp] theorem State.memRead_resetDone (addr : Word) : (s.memRead addr).2.resetDone = s.resetDone := rfl

@[simp] theorem State.afterReads_a (l : List Word) : (s.afterReads l).a = s.a := rfl
@[simp] theorem State.afterReads_x (l : List Word) : (s.afterReads l).x = s.x := rfl
@[simp] theorem State.afterReads_y (l : List Word) : (s.afterReads l).y = s.y := rfl
@[simp] theorem State.afterReads_sp (l : List Word) : (s.afterReads l).sp = s.sp := rfl
@[simp] theorem State.afterReads_pc (l : List Word) : (s.afterReads l).pc = s.pc := rfl
@[simp] theorem State.afterReads_p (l : List Word) : (s.afterReads l).p = s.p := rfl
@[simp] theorem State.afterReads_mem (l : List Word) : (s.afterReads l).mem = s.mem := rfl
@[simp] theorem State.afterReads_config (l : List Word) : (s.afterReads l).config = s.config := rfl
@[simp] theorem State.afterReads_requests (l : List Word) : (s.afterReads l).requests = s.requests := rfl
@[simp] theorem State.afterReads_resetDone (l : List Word) : (s.afterReads l).resetDone = s.resetDone := rfl
@[simp] theorem State.afterReads_bus (l : List Word) :
    (s.afterReads l).bus = s.bus ++ List.zipWith BusEvent.read l (s.answers l) := rfl
@[simp] theorem State.afterReads_deviceReads (l : List Word) :
    (s.afterReads l).deviceReads = s.config.bus.countReads s.deviceReads l := rfl

@[simp] theorem State.poke_a (addr : Word) (v : Byte) : (s.poke addr v).a = s.a := rfl
@[simp] theorem State.poke_x (addr : Word) (v : Byte) : (s.poke addr v).x = s.x := rfl
@[simp] theorem State.poke_y (addr : Word) (v : Byte) : (s.poke addr v).y = s.y := rfl
@[simp] theorem State.poke_sp (addr : Word) (v : Byte) : (s.poke addr v).sp = s.sp := rfl
@[simp] theorem State.poke_pc (addr : Word) (v : Byte) : (s.poke addr v).pc = s.pc := rfl
@[simp] theorem State.poke_p (addr : Word) (v : Byte) : (s.poke addr v).p = s.p := rfl
@[simp] theorem State.poke_mem (addr : Word) (v : Byte) : (s.poke addr v).mem = s.mem.write addr.toNat v := rfl
@[simp] theorem State.poke_config (addr : Word) (v : Byte) : (s.poke addr v).config = s.config := rfl
@[simp] theorem State.poke_deviceReads (addr : Word) (v : Byte) : (s.poke addr v).deviceReads = s.deviceReads := rfl
@[simp] theorem State.poke_requests (addr : Word) (v : Byte) : (s.poke addr v).requests = s.requests := rfl
@[simp] theorem State.poke_bus (addr : Word) (v : Byte) : (s.poke addr v).bus = s.bus := rfl
@[simp] theorem State.poke_resetDone (addr : Word) (v : Byte) : (s.poke addr v).resetDone = s.resetDone := rfl

@[simp] theorem State.beginTransition_a : s.beginTransition.a = s.a := rfl
@[simp] theorem State.beginTransition_x : s.beginTransition.x = s.x := rfl
@[simp] theorem State.beginTransition_y : s.beginTransition.y = s.y := rfl
@[simp] theorem State.beginTransition_sp : s.beginTransition.sp = s.sp := rfl
@[simp] theorem State.beginTransition_pc : s.beginTransition.pc = s.pc := rfl
@[simp] theorem State.beginTransition_p : s.beginTransition.p = s.p := rfl
@[simp] theorem State.beginTransition_mem : s.beginTransition.mem = s.mem := rfl
@[simp] theorem State.beginTransition_config : s.beginTransition.config = s.config := rfl
@[simp] theorem State.beginTransition_deviceReads : s.beginTransition.deviceReads = s.deviceReads := rfl
@[simp] theorem State.beginTransition_requests : s.beginTransition.requests = s.requests.tail := rfl
@[simp] theorem State.beginTransition_bus : s.beginTransition.bus = [] := rfl
@[simp] theorem State.beginTransition_resetDone : s.beginTransition.resetDone = s.resetDone := rfl

@[simp] theorem Status.setZN_n (p : Status) (v : Byte) : (p.setZN v).n = v.msb := rfl
@[simp] theorem Status.setZN_v (p : Status) (v : Byte) : (p.setZN v).v = p.v := rfl
@[simp] theorem Status.setZN_u (p : Status) (v : Byte) : (p.setZN v).u = p.u := rfl
@[simp] theorem Status.setZN_b (p : Status) (v : Byte) : (p.setZN v).b = p.b := rfl
@[simp] theorem Status.setZN_d (p : Status) (v : Byte) : (p.setZN v).d = p.d := rfl
@[simp] theorem Status.setZN_i (p : Status) (v : Byte) : (p.setZN v).i = p.i := rfl
@[simp] theorem Status.setZN_z (p : Status) (v : Byte) : (p.setZN v).z = (v == 0) := rfl
@[simp] theorem Status.setZN_c (p : Status) (v : Byte) : (p.setZN v).c = p.c := rfl

/-- Two statuses with the same eight flags are equal. -/
@[ext] theorem Status.ext' {p q : Status} (hn : p.n = q.n) (hv : p.v = q.v) (hu : p.u = q.u) (hb : p.b = q.b)
    (hd : p.d = q.d) (hi : p.i = q.i) (hz : p.z = q.z) (hc : p.c = q.c) : p = q := by
  cases p; cases q; simp_all

end Sys2Proof.Machine
end

