-- ==== Sys2Proof/Laws/Ops.lean ====
section
/-! SUPPORT. What each named operation does, said once: callers cite these and do not unfold the operation. -/

namespace Sys2Proof.Machine

variable (s : State)

theorem State.byteAt_memWrite (addr b : Word) (v : Byte) :
    (s.memWrite addr v).byteAt b = if b = addr ∧ s.config.bus.backingOf addr = .ram then v else s.byteAt b :=
  s.config.bus.read_store s.mem addr v b

@[simp] theorem State.byteAt_memRead (addr b : Word) : (s.memRead addr).2.byteAt b = s.byteAt b := rfl

@[simp] theorem State.byteAt_afterReads (l : List Word) (b : Word) : (s.afterReads l).byteAt b = s.byteAt b := rfl

@[simp] theorem State.byteAt_setSp (v : Byte) (b : Word) : (s.setSp v).byteAt b = s.byteAt b := rfl

@[simp] theorem State.byteAt_setP (v : Status) (b : Word) : (s.setP v).byteAt b = s.byteAt b := rfl

@[simp] theorem State.byteAt_setPc (v : Word) (b : Word) : (s.setPc v).byteAt b = s.byteAt b := rfl

/-- The answer to a read of `addr` that comes after reads of the addresses `l`. -/
def State.answerAfter (s : State) (l : List Word) (addr : Word) : Byte :=
  s.config.bus.answer s.mem (s.config.bus.countReads s.deviceReads l) addr

theorem State.answerAt_eq (addr : Word) : s.answerAt addr = s.answerAfter [] addr := rfl

theorem State.answerAt_afterReads (l : List Word) (addr : Word) :
    (s.afterReads l).answerAt addr = s.answerAfter l addr := rfl

@[simp] theorem State.answers_nil : s.answers [] = [] := rfl

theorem State.answers_cons (addr : Word) (l : List Word) :
    s.answers (addr :: l) = s.answerAt addr :: (s.memRead addr).2.answers l := rfl

/-- What the environment answers depends on BUS, on what memory holds and on the device reads before, and on nothing
else. -/
theorem State.answers_congr {s t : State} (hc : t.config.bus = s.config.bus) (hm : t.mem = s.mem)
    (hn : t.deviceReads = s.deviceReads) (l : List Word) : t.answers l = s.answers l := by
  rw [State.answers, State.answers, hc, hm, hn]

theorem State.answerAfter_congr {s t : State} (hc : t.config.bus = s.config.bus) (hm : t.mem = s.mem)
    (hn : t.deviceReads = s.deviceReads) (l : List Word) (addr : Word) :
    t.answerAfter l addr = s.answerAfter l addr := by
  rw [State.answerAfter, State.answerAfter, hc, hm, hn]

theorem State.length_answers (l : List Word) : (s.answers l).length = l.length := by
  unfold State.answers
  generalize s.deviceReads = n
  induction l generalizing n with
  | nil => rfl
  | cons a l ih => simp [Bus.answersTo, ih]

/-- Memory answers with the byte it holds (20_memory.md R52). -/
theorem State.answerAfter_of_ne_device {addr : Word} (h : s.config.bus.backingOf addr ≠ .device) (l : List Word) :
    s.answerAfter l addr = s.byteAt addr :=
  Bus.answer_of_ne_device _ _ h

@[simp] theorem State.afterReads_nil : s.afterReads [] = s := by
  simp [State.afterReads, Bus.countReads]

/-- Reads one after the other are `memRead`s one after the other. -/
theorem State.afterReads_cons (addr : Word) (l : List Word) :
    s.afterReads (addr :: l) = (s.memRead addr).2.afterReads l := by
  simp [State.afterReads, State.memRead, State.answers, Bus.answersTo, Bus.countReads, State.answerAt]

theorem State.memRead_eq (addr : Word) : s.memRead addr = (s.answerAt addr, s.afterReads [addr]) := rfl

theorem State.afterReads_append (l l' : List Word) : s.afterReads (l ++ l') = (s.afterReads l).afterReads l' := by
  induction l generalizing s with
  | nil => rw [State.afterReads_nil, List.nil_append]
  | cons a l ih => rw [List.cons_append, State.afterReads_cons, State.afterReads_cons, ih]

theorem State.readWord_eq (lo hi : Word) :
    s.readWord lo hi = (wordOf (s.answerAfter [lo] hi) (s.answerAt lo), s.afterReads [lo, hi]) := by
  rw [State.afterReads_cons]
  rfl

theorem stackAddr_toNat (sp : Byte) : (stackAddr sp).toNat = 0x100 + sp.toNat := by
  have := sp.isLt
  simp only [stackAddr, BitVec.toNat_add, zext16_toNat]
  simp
  omega

@[simp] theorem stackAddr_inj (p q : Byte) : stackAddr p = stackAddr q ↔ p = q := by
  rw [← BitVec.toNat_inj, ← BitVec.toNat_inj, stackAddr_toNat, stackAddr_toNat]
  omega

/-- No address from page 2 up is a stack address; the vectors are such addresses (20_memory.md R61). -/
theorem stackAddr_ne_of_le {w : Word} (sp : Byte) (h : 0x200 ≤ w.toNat) : w ≠ stackAddr sp := by
  intro e
  have := sp.isLt
  have := stackAddr_toNat sp
  rw [← e] at this
  omega

theorem State.push_eq (v : Byte) :
    s.push v = { s with
      sp := s.sp - 1
      mem := s.config.bus.store s.mem (stackAddr s.sp) v
      bus := s.bus ++ [.write (stackAddr s.sp) v] } := rfl

theorem State.byteAt_push (v : Byte) (b : Word) :
    (s.push v).byteAt b =
      if b = stackAddr s.sp ∧ s.config.bus.backingOf (stackAddr s.sp) = .ram then v else s.byteAt b :=
  s.byteAt_memWrite _ b v

theorem State.pull_eq :
    s.pull = (s.answerAt (stackAddr (s.sp + 1)), { s.afterReads [stackAddr (s.sp + 1)] with sp := s.sp + 1 }) := rfl

@[simp] theorem sub_one_sub_one (v : Byte) : v - 1#8 - 1#8 = v - 2#8 := BitVec.sub_sub ..

@[simp] theorem sub_two_sub_one (v : Byte) : v - 2#8 - 1#8 = v - 3#8 := BitVec.sub_sub ..

@[simp] theorem add_one_add_one (v : Byte) : v + 1#8 + 1#8 = v + 2#8 := BitVec.add_assoc ..

@[simp] theorem add_one_add_two (v : Byte) : v + 1#8 + 2#8 = v + 3#8 := BitVec.add_assoc ..

theorem State.pushWord_eq (w : Word) :
    s.pushWord w = { s with
      sp := s.sp - 2
      mem := s.config.bus.store (s.config.bus.store s.mem (stackAddr s.sp) (hiByte w)) (stackAddr (s.sp - 1)) (loByte w)
      bus := s.bus ++ [.write (stackAddr s.sp) (hiByte w), .write (stackAddr (s.sp - 1)) (loByte w)] } := by
  simp [State.pushWord, State.push_eq]

theorem State.byteAt_pushWord (w b : Word) :
    (s.pushWord w).byteAt b =
      if b = stackAddr (s.sp - 1) ∧ s.config.bus.backingOf (stackAddr (s.sp - 1)) = .ram then loByte w
      else if b = stackAddr s.sp ∧ s.config.bus.backingOf (stackAddr s.sp) = .ram then hiByte w
      else s.byteAt b := by
  simp only [State.pushWord, State.byteAt_push]
  rfl

theorem State.pullWord_eq :
    s.pullWord = (wordOf (s.answerAfter [stackAddr (s.sp + 1)] (stackAddr (s.sp + 2))) (s.answerAt (stackAddr (s.sp + 1))),
      { s.afterReads [stackAddr (s.sp + 1), stackAddr (s.sp + 2)] with sp := s.sp + 2 }) := by
  simp [State.pullWord, State.pull_eq, State.afterReads, State.answers, Bus.answersTo, Bus.countReads,
    State.answerAfter, State.answerAt]

/-- The memory an entry leaves. -/
theorem State.enter_mem (ret : Word) (b : Bool) (vec : Word) :
    (s.enter ret b vec).mem = s.config.bus.store (s.config.bus.store (s.config.bus.store s.mem (stackAddr s.sp)
      (hiByte ret)) (stackAddr (s.sp - 1)) (loByte ret)) (stackAddr (s.sp - 2)) (packP b s.p) := by
  simp [State.enter, State.readWord_eq, State.pushWord_eq, State.push_eq]

/-- What memory holds after the three pushes of an entry. -/
theorem State.byteAt_enter (ret : Word) (b : Bool) (vec w : Word) :
    (s.enter ret b vec).byteAt w =
      if w = stackAddr (s.sp - 2) ∧ s.config.bus.backingOf (stackAddr (s.sp - 2)) = .ram then packP b s.p
      else if w = stackAddr (s.sp - 1) ∧ s.config.bus.backingOf (stackAddr (s.sp - 1)) = .ram then loByte ret
      else if w = stackAddr s.sp ∧ s.config.bus.backingOf (stackAddr s.sp) = .ram then hiByte ret
      else s.byteAt w := by
  rw [State.byteAt, State.enter_mem, Bus.read_store, Bus.read_store, Bus.read_store]
  rfl

/-- The state after the three pushes of an entry, before its vector is read (60_exceptions.md R242). -/
def State.entryPushes (s : State) (ret : Word) (b : Bool) : State := (s.pushWord ret).push (packP b s.p)

theorem State.entryPushes_eq (ret : Word) (b : Bool) :
    s.entryPushes ret b = { s with
      sp := s.sp - 3
      mem := (s.entryPushes ret b).mem
      bus := s.bus ++ [.write (stackAddr s.sp) (hiByte ret), .write (stackAddr (s.sp - 1)) (loByte ret),
        .write (stackAddr (s.sp - 2)) (packP b s.p)] } := by
  simp [State.entryPushes, State.pushWord_eq, State.push_eq]

theorem State.enter_mem_eq (ret : Word) (b : Bool) (vec : Word) :
    (s.enter ret b vec).mem = (s.entryPushes ret b).mem := by
  simp [State.enter, State.readWord_eq, State.entryPushes]

/-- Everything an entry does (60_exceptions.md R242): three pushes, the vector read from what memory then holds, PC from
it, and P.I set. -/
theorem State.enter_eq (ret : Word) (b : Bool) (vec : Word) :
    s.enter ret b vec = { (s.entryPushes ret b).afterReads [vec, vec + 1] with
      pc := wordOf ((s.entryPushes ret b).answerAfter [vec] (vec + 1)) ((s.entryPushes ret b).answerAt vec)
      p := { s.p with i := true } } := by
  simp [State.enter, State.readWord_eq, State.entryPushes, State.setPc, State.setP, State.pushWord_eq, State.push_eq]

@[simp] theorem State.enter_a (ret : Word) (b : Bool) (vec : Word) : (s.enter ret b vec).a = s.a := by
  simp [State.enter, State.readWord_eq, State.pushWord_eq, State.push_eq]

@[simp] theorem State.enter_x (ret : Word) (b : Bool) (vec : Word) : (s.enter ret b vec).x = s.x := by
  simp [State.enter, State.readWord_eq, State.pushWord_eq, State.push_eq]

@[simp] theorem State.enter_y (ret : Word) (b : Bool) (vec : Word) : (s.enter ret b vec).y = s.y := by
  simp [State.enter, State.readWord_eq, State.pushWord_eq, State.push_eq]

@[simp] theorem State.enter_sp (ret : Word) (b : Bool) (vec : Word) : (s.enter ret b vec).sp = s.sp - 3 := by
  simp [State.enter, State.readWord_eq, State.pushWord_eq, State.push_eq]

@[simp] theorem State.enter_p (ret : Word) (b : Bool) (vec : Word) :
    (s.enter ret b vec).p = { s.p with i := true } := by
  simp [State.enter, State.readWord_eq, State.pushWord_eq, State.push_eq]

@[simp] theorem State.enter_config (ret : Word) (b : Bool) (vec : Word) :
    (s.enter ret b vec).config = s.config := by
  simp [State.enter, State.readWord_eq, State.pushWord_eq, State.push_eq]

@[simp] theorem State.enter_requests (ret : Word) (b : Bool) (vec : Word) :
    (s.enter ret b vec).requests = s.requests := by
  simp [State.enter, State.readWord_eq, State.pushWord_eq, State.push_eq]

@[simp] theorem State.enter_resetDone (ret : Word) (b : Bool) (vec : Word) :
    (s.enter ret b vec).resetDone = s.resetDone := by
  simp [State.enter, State.readWord_eq, State.pushWord_eq, State.push_eq]

@[simp] theorem State.enter_deviceReads (ret : Word) (b : Bool) (vec : Word) :
    (s.enter ret b vec).deviceReads = s.config.bus.countReads s.deviceReads [vec, vec + 1] := by
  simp [State.enter, State.readWord_eq, State.pushWord_eq, State.push_eq]

/-- The pushes of an entry do not change what the environment answers outside the stack page. -/
theorem State.answer_enter_mem (ret : Word) (b : Bool) (vec : Word) (n : Nat) {w : Word} (h : 0x200 ≤ w.toNat) :
    s.config.bus.answer (s.enter ret b vec).mem n w = s.config.bus.answer s.mem n w := by
  have hb := s.byteAt_enter ret b vec w
  simp only [stackAddr_ne_of_le _ h, false_and, if_false, State.byteAt] at hb
  simp only [Bus.answer, hb]

/-- The bytes an entry reads from a vector outside the stack page, and what it makes of them. -/
theorem State.enter_eq_of_le (ret : Word) (b : Bool) {vec : Word} (h : 0x200 ≤ vec.toNat) (h' : vec.toNat ≠ 0xFFFF) :
    s.enter ret b vec = { s with
      sp := s.sp - 3
      pc := wordOf (s.answerAfter [vec] (vec + 1)) (s.answerAt vec)
      p := { s.p with i := true }
      mem := (s.enter ret b vec).mem
      deviceReads := s.config.bus.countReads s.deviceReads [vec, vec + 1]
      bus := s.bus ++ [.write (stackAddr s.sp) (hiByte ret), .write (stackAddr (s.sp - 1)) (loByte ret),
        .write (stackAddr (s.sp - 2)) (packP b s.p), .read vec (s.answerAt vec),
        .read (vec + 1) (s.answerAfter [vec] (vec + 1))] } := by
  have h1 : 0x200 ≤ (vec + 1#16).toNat := by
    have := vec.isLt
    rw [BitVec.toNat_add]
    simp
    omega
  conv => lhs; rw [State.enter_eq, State.entryPushes_eq, ← s.enter_mem_eq ret b vec]
  simp [State.afterReads, State.answers, Bus.answersTo, State.answerAfter, State.answerAt, s.answer_enter_mem ret b vec _ h,
    s.answer_enter_mem ret b vec _ h1, Bus.countReads]

/-- PC after an entry, for a vector outside the stack page. -/
theorem State.enter_pc (ret : Word) (b : Bool) {vec : Word} (h : 0x200 ≤ vec.toNat) (h' : vec.toNat ≠ 0xFFFF) :
    (s.enter ret b vec).pc = wordOf (s.answerAfter [vec] (vec + 1)) (s.answerAt vec) := by
  rw [State.enter_eq_of_le s ret b h h']

/-- Everything the return does (46_flags_system.md R230). -/
theorem State.leave_eq :
    s.leave = { s.afterReads [stackAddr (s.sp + 1), stackAddr (s.sp + 2), stackAddr (s.sp + 3)] with
      sp := s.sp + 3
      pc := wordOf (s.answerAfter [stackAddr (s.sp + 1), stackAddr (s.sp + 2)] (stackAddr (s.sp + 3)))
        (s.answerAfter [stackAddr (s.sp + 1)] (stackAddr (s.sp + 2)))
      p := unpackP (s.answerAt (stackAddr (s.sp + 1))) } := by
  simp [State.leave, State.pull_eq, State.pullWord_eq, State.setPc, State.setP, State.afterReads, State.answers,
    Bus.answersTo, Bus.countReads, State.answerAfter, State.answerAt]

/-- `reset` gives every register its value whatever the state was (70_reset_and_hazards.md R270, R272). -/
theorem State.performReset_eq :
    s.performReset = { s.afterReads (match s.config.resetPcSource with
        | .vector => [resetVector, resetVector + 1]
        | .fixed => []) with
      a := 0x00
      x := 0x00
      y := 0x00
      sp := 0xFF
      p := Status.boot
      pc := resetPc s.config s.mem s.deviceReads
      resetDone := true } := by
  unfold State.performReset
  cases h : s.config.resetPcSource <;>
    simp [State.readWord_eq, resetPc, h, resetVectorBytes, State.answerAfter, State.answerAt, Bus.countReads]

/-- State.reset is what `reset` leaves of any state of the reset instance with nothing listed in memory and no device
read. -/
theorem State.reset_eq_performReset (h : s.config = Config.atReset) (hm : s.mem = []) (hn : s.deviceReads = 0) :
    State.reset = { s with requests := [], bus := [] }.performReset := by
  rw [State.performReset_eq]
  simp only [h, hm, hn, State.afterReads, State.answers]
  rfl

/-- Every operation that writes memory keeps its canonical form. -/
theorem State.memWrite_wf (h : s.mem.wf) (addr : Word) (v : Byte) : (s.memWrite addr v).mem.wf :=
  Bus.store_wf _ _ h v

theorem State.poke_wf (h : s.mem.wf) (addr : Word) (v : Byte) : (s.poke addr v).mem.wf :=
  Memory.write_wf v h addr.isLt

theorem State.push_wf (h : s.mem.wf) (v : Byte) : (s.push v).mem.wf := s.memWrite_wf h _ v

theorem State.pushWord_wf (h : s.mem.wf) (w : Word) : (s.pushWord w).mem.wf :=
  State.push_wf _ (s.push_wf h _) _

theorem State.enter_wf (h : s.mem.wf) (ret : Word) (b : Bool) (vec : Word) : (s.enter ret b vec).mem.wf := by
  rw [State.enter_mem]
  exact Bus.store_wf _ _ (Bus.store_wf _ _ (Bus.store_wf _ _ h _) _) _

theorem State.performReset_wf (h : s.mem.wf) : s.performReset.mem.wf := by
  rw [State.performReset_eq]
  exact h

end Sys2Proof.Machine
end

