-- ==== Sys2Proof/Laws/Operands.lean ====
section
/-! SUPPORT. What the resolvers, the operand fetch and the write-back do: they only record bus transactions, and
`writeBack` writes one place. -/

namespace Sys2Proof.Machine

variable (s : State)

/-- The addresses a resolver reads, in order: those of the pointer bytes (40_step_and_addressing.md R110 to R112). -/
def State.pointerAddrs (m : MemOperand) : List Word :=
  match m with
  | .indirect a16 => [a16, samePageNext a16]
  | .indirectX d8 => [zext16 (d8 + s.x), zext16 (d8 + s.x + 1)]
  | .indirectY d8 => [zext16 d8, zext16 (d8 + 1)]
  | _ => []

/-- A resolver only reads the pointer bytes. -/
theorem State.resolve_eq (m : MemOperand) :
    s.resolve m = (s.effectiveAddress m, s.afterReads (s.pointerAddrs m)) := by
  cases m <;> simp [State.effectiveAddress, State.resolve, State.pointerAddrs, State.readWord_eq]

/-- The effective addresses of the modes (R101). -/
theorem State.effectiveAddress_eq (m : MemOperand) :
    s.effectiveAddress m = match m with
      | .zeroPage d8 => zext16 d8
      | .zeroPageX d8 => zext16 (d8 + s.x)
      | .zeroPageY d8 => zext16 (d8 + s.y)
      | .absolute a16 => a16
      | .absoluteX a16 => a16 + zext16 s.x
      | .absoluteY a16 => a16 + zext16 s.y
      | .indirect a16 => wordOf (s.answerAfter [a16] (samePageNext a16)) (s.answerAt a16)
      | .indirectX d8 =>
        wordOf (s.answerAfter [zext16 (d8 + s.x)] (zext16 (d8 + s.x + 1))) (s.answerAt (zext16 (d8 + s.x)))
      | .indirectY d8 =>
        wordOf (s.answerAfter [zext16 d8] (zext16 (d8 + 1))) (s.answerAt (zext16 d8)) + zext16 s.y := by
  cases m <;> simp [State.effectiveAddress, State.resolve, State.readWord_eq]

/-- The addresses an operand fetch reads, in order: the pointer bytes, then the operand (R114). -/
def State.operandAddrs (o : Operand) : List Word :=
  match o with
  | .implied => []
  | .immediate _ => []
  | .memory m => s.pointerAddrs m ++ [s.effectiveAddress m]

@[simp] theorem State.operandValue_implied : s.operandValue .implied = s.a := rfl

@[simp] theorem State.operandValue_immediate (d8 : Byte) : s.operandValue (.immediate d8) = d8 := rfl

/-- The operand of a memory form is what the environment answers at its effective address, after the pointer reads
(R114). -/
@[simp] theorem State.operandValue_memory (m : MemOperand) :
    s.operandValue (.memory m) = s.answerAfter (s.pointerAddrs m) (s.effectiveAddress m) := by
  simp [State.operandValue, State.fetchOperand, State.resolve_eq, State.answerAt_afterReads]

/-- The operand fetch only reads the pointer bytes and the operand. -/
theorem State.fetchOperand_eq (o : Operand) : s.fetchOperand o = (s.operandValue o, s.afterReads (s.operandAddrs o)) := by
  cases o with
  | implied => simp [State.fetchOperand, State.operandAddrs]
  | immediate d8 => simp [State.fetchOperand, State.operandAddrs]
  | memory m =>
    rw [State.operandValue_memory]
    simp [State.fetchOperand, State.operandAddrs, State.resolve_eq, State.memRead_eq, State.afterReads_append,
      State.answerAt_afterReads]

theorem State.resolveOnly_eq (o : Operand) :
    s.resolveOnly o = s.afterReads (match o with
      | .memory m => s.pointerAddrs m
      | .implied => []
      | .immediate _ => []) := by
  cases o <;> simp [State.resolveOnly, State.resolve_eq]

/-- The staging of a shift only reads the pointer bytes and the operand (R115). -/
theorem State.stageShift_eq (o : ShiftOperand) :
    s.stageShift o = match o with
      | .accumulator => (.accumulator, s.a, s)
      | .memory m => (.memory (s.effectiveAddress m), s.operandValue (.memory m),
          s.afterReads (s.operandAddrs (.memory m))) := by
  cases o with
  | accumulator => rfl
  | memory m =>
    simp [State.stageShift, State.operandAddrs, State.resolve_eq, State.memRead_eq, State.afterReads_append,
      State.answerAt_afterReads]

end Sys2Proof.Machine
end

