-- ==== Sys2Proof/Laws/Exec.lean ====
section
/-! SUPPORT. What every instruction does, said once for each handler: `exec` is the handler run on the operand, and
each handler's whole effect as one record. -/

namespace Sys2Proof.Machine

/-- The memory operand of an operand that has one. -/
def State.onMemory (s : State) (o : Operand) (f : MemOperand → State) : State :=
  match o with
  | .memory m => f m
  | .implied => s
  | .immediate _ => s

/-- The place an operand names for a shift. -/
def shiftOperand (o : Operand) : ShiftOperand :=
  match o with
  | .memory m => .memory m
  | .implied => .accumulator
  | .immediate _ => .accumulator

/-- The displacement byte of a branch. -/
def displacement (o : Operand) : Byte :=
  match o with
  | .immediate d8 => d8
  | .implied => 0
  | .memory _ => 0

/-- What each handler does with an operand (30_encoding.md R84). -/
def State.run (s : State) (h : Handler) (o : Operand) : State :=
  match h with
  | .lda => s.lda o
  | .ldx => s.ldx o
  | .ldy => s.ldy o
  | .sta => s.onMemory o fun m => s.store m s.a
  | .stx => s.onMemory o fun m => s.store m s.x
  | .sty => s.onMemory o fun m => s.store m s.y
  | .tax => (s.setX s.a).setZN s.a
  | .tay => (s.setY s.a).setZN s.a
  | .txa => (s.setA s.x).setZN s.x
  | .tya => (s.setA s.y).setZN s.y
  | .tsx => (s.setX s.sp).setZN s.sp
  | .txs => s.setSp s.x
  | .pha => s.push s.a
  | .php => s.push (packP true s.p)
  | .pla => s.pla
  | .plp => s.plp
  | .and => s.logic (s.a &&& ·) o
  | .ora => s.logic (s.a ||| ·) o
  | .eor => s.logic (s.a ^^^ ·) o
  | .bit => s.bitTest o
  | .adc => s.adc o
  | .sbc => s.sbc o
  | .cmp => s.compare s.a o
  | .cpx => s.compare s.x o
  | .cpy => s.compare s.y o
  | .inc => s.onMemory o fun m => s.modify (· + 1) m
  | .dec => s.onMemory o fun m => s.modify (· - 1) m
  | .inx => (s.setX (s.x + 1)).setZN (s.x + 1)
  | .dex => (s.setX (s.x - 1)).setZN (s.x - 1)
  | .iny => (s.setY (s.y + 1)).setZN (s.y + 1)
  | .dey => (s.setY (s.y - 1)).setZN (s.y - 1)
  | .asl => s.shift aslByte (shiftOperand o)
  | .lsr => s.shift lsrByte (shiftOperand o)
  | .rol => s.shift rolByte (shiftOperand o)
  | .ror => s.shift rorByte (shiftOperand o)
  | .jmp => s.onMemory o fun m => s.jump m
  | .jsr => s.onMemory o fun m => s.jsr m
  | .rts => s.rts
  | .bcc => s.branch (!s.p.c) (displacement o)
  | .bcs => s.branch s.p.c (displacement o)
  | .bne => s.branch (!s.p.z) (displacement o)
  | .beq => s.branch s.p.z (displacement o)
  | .bpl => s.branch (!s.p.n) (displacement o)
  | .bmi => s.branch s.p.n (displacement o)
  | .bvc => s.branch (!s.p.v) (displacement o)
  | .bvs => s.branch s.p.v (displacement o)
  | .clc => s.setP { s.p with c := false }
  | .cld => s.setP { s.p with d := false }
  | .cli => s.setP { s.p with i := false }
  | .clv => s.setP { s.p with v := false }
  | .sec => s.setP { s.p with c := true }
  | .sed => s.setP { s.p with d := true }
  | .sei => s.setP { s.p with i := true }
  | .brk => s.brk
  | .nop => s
  | .rti => s.leave
  | .noOp => s.resolveOnly o

/-- Every instruction runs its handler on its operand: an arm of `exec` that ran another handler, or another
operand, would make this false. -/
theorem exec_eq_run (i : Instr) (s : State) : exec i s = .next (s.run i.handler i.operand) := by
  cases i <;> rfl

/-- What `s.run` gives is the only state `exec` answers. -/
theorem exec_next {i : Instr} {s t : State} (h : exec i s = .next t) : t = s.run i.handler i.operand := by
  rw [exec_eq_run] at h
  injection h with h
  exact h.symm

/-- The handlers none of whose forms has a memory operand (30_encoding.md R88). -/
def Handler.noMemoryForm : Handler → Bool
  | .tax | .tay | .txa | .tya | .tsx | .txs | .pha | .php | .pla | .plp | .inx | .dex | .iny | .dey | .rts
  | .bcc | .bcs | .bne | .beq | .bpl | .bmi | .bvc | .bvs | .clc | .cld | .cli | .clv | .sec | .sed | .sei
  | .brk | .nop | .rti => true
  | _ => false

theorem operand_ne_memory (i : Instr) (h : Handler.noMemoryForm i.handler = true) (m : MemOperand) :
    i.operand ≠ .memory m := by
  revert h
  cases i <;> first | exact fun h => Bool.noConfusion h | exact fun _ => Operand.noConfusion

theorem brk_operand (i : Instr) (h : i.handler = .brk) : i = .brk := by
  revert h
  cases i <;> first | exact fun h => Handler.noConfusion h | exact fun _ => rfl

theorem jsr_operand (i : Instr) (h : i.handler = .jsr) : ∃ a16, i.operand = .memory (.absolute a16) := by
  revert h
  cases i <;> first | exact fun h => Handler.noConfusion h | exact fun _ => ⟨_, rfl⟩

/-- Only JMP and the unassigned opcodes have the indirect mode. -/
theorem operand_ne_indirect (i : Instr) (h : i.handler ≠ .jmp) (h' : i.handler ≠ .noOp) (a16 : Word) :
    i.operand ≠ .memory (.indirect a16) := by
  revert h h'
  cases i <;> first
    | exact fun _ _ h => Operand.noConfusion h
    | exact fun _ _ h => Operand.noConfusion h fun h => MemOperand.noConfusion h
    | exact fun h _ => absurd rfl h
    | exact fun _ h => absurd rfl h

/-- The read-modify-write handlers have no indirect forms. -/
theorem modify_operand (i : Instr) (h : i.handler ∈ [Handler.inc, .dec, .asl, .lsr, .rol, .ror]) :
    i.operand.mode ∈ [Mode.implied, .zeroPage, .zeroPageX, .absolute, .absoluteX] := by
  revert h
  cases i <;> simp only [Instr.handler, Instr.operand, Operand.mode, MemOperand.mode] <;>
    first | decide | exact fun h => absurd h (by decide)

variable (s : State)

theorem State.lda_eq (o : Operand) :
    s.lda o = { s.afterReads (s.operandAddrs o) with a := s.operandValue o, p := s.p.setZN (s.operandValue o) } := by
  simp [State.lda, State.fetchOperand_eq, State.setA, State.setZN, State.setP]

theorem State.ldx_eq (o : Operand) :
    s.ldx o = { s.afterReads (s.operandAddrs o) with x := s.operandValue o, p := s.p.setZN (s.operandValue o) } := by
  simp [State.ldx, State.fetchOperand_eq, State.setX, State.setZN, State.setP]

theorem State.ldy_eq (o : Operand) :
    s.ldy o = { s.afterReads (s.operandAddrs o) with y := s.operandValue o, p := s.p.setZN (s.operandValue o) } := by
  simp [State.ldy, State.fetchOperand_eq, State.setY, State.setZN, State.setP]

theorem State.store_eq (m : MemOperand) (v : Byte) :
    s.store m v = (s.afterReads (s.pointerAddrs m)).memWrite (s.effectiveAddress m) v := by
  rw [State.store, State.resolve_eq]

theorem State.logic_eq (f : Byte → Byte) (o : Operand) :
    s.logic f o = { s.afterReads (s.operandAddrs o) with
      a := f (s.operandValue o), p := s.p.setZN (f (s.operandValue o)) } := by
  simp [State.logic, State.fetchOperand_eq, State.setA, State.setZN, State.setP]

theorem State.bitTest_eq (o : Operand) :
    s.bitTest o = { s.afterReads (s.operandAddrs o) with p := s.p.bitTest s.a (s.operandValue o) } := by
  simp [State.bitTest, State.fetchOperand_eq, State.setP]

theorem State.adc_eq (o : Operand) :
    s.adc o = { s.afterReads (s.operandAddrs o) with
      a := (addWithCarry s.a (s.operandValue o) s.p.c).value
      p := s.p.ofAdd (addWithCarry s.a (s.operandValue o) s.p.c) } := by
  simp [State.adc, State.fetchOperand_eq, State.setA, State.setP]

theorem State.sbc_eq (o : Operand) :
    s.sbc o = { s.afterReads (s.operandAddrs o) with
      a := (subWithCarry s.a (s.operandValue o) s.p.c).value
      p := s.p.ofAdd (subWithCarry s.a (s.operandValue o) s.p.c) } := by
  simp [State.sbc, State.fetchOperand_eq, State.setA, State.setP]

theorem State.compare_eq (r : Byte) (o : Operand) :
    s.compare r o = { s.afterReads (s.operandAddrs o) with p := s.p.compare r (s.operandValue o) } := by
  simp [State.compare, State.fetchOperand_eq, State.setP]

theorem State.modify_eq (f : Byte → Byte) (m : MemOperand) :
    s.modify f m = { (s.afterReads (s.operandAddrs (.memory m))).memWrite (s.effectiveAddress m)
        (f (s.operandValue (.memory m))) with p := s.p.setZN (f (s.operandValue (.memory m))) } := by
  simp [State.modify, State.resolve_eq, State.memRead_eq, State.operandAddrs, State.afterReads_append,
    State.answerAt_afterReads, State.setZN, State.setP]

theorem State.shift_accumulator_eq (f : Bool → Byte → ShiftResult) :
    s.shift f .accumulator = { s with a := (f s.p.c s.a).value, p := s.p.ofShift (f s.p.c s.a) } := by
  simp [State.shift, State.stageShift_eq, State.writeBack, State.setA, State.setP]

theorem State.shift_memory_eq (f : Bool → Byte → ShiftResult) (m : MemOperand) :
    s.shift f (.memory m) = { (s.afterReads (s.operandAddrs (.memory m))).memWrite (s.effectiveAddress m)
        (f s.p.c (s.operandValue (.memory m))).value with
      p := s.p.ofShift (f s.p.c (s.operandValue (.memory m))) } := by
  simp [State.shift, State.stageShift_eq, State.writeBack, State.setP]

theorem State.jump_eq (m : MemOperand) :
    s.jump m = { s.afterReads (s.pointerAddrs m) with pc := s.effectiveAddress m } := by
  simp [State.jump, State.resolve_eq, State.setPc]

theorem State.jsr_eq (m : MemOperand) :
    s.jsr m = { (s.afterReads (s.pointerAddrs m)).pushWord (s.pc - 1) with pc := s.effectiveAddress m } := by
  simp [State.jsr, State.resolve_eq, State.setPc]

theorem State.rts_eq :
    s.rts = { s.afterReads [stackAddr (s.sp + 1), stackAddr (s.sp + 2)] with
      sp := s.sp + 2
      pc := wordOf (s.answerAfter [stackAddr (s.sp + 1)] (stackAddr (s.sp + 2)))
        (s.answerAt (stackAddr (s.sp + 1))) + 1 } := by
  simp [State.rts, State.pullWord_eq, State.setPc]

theorem State.pla_eq :
    s.pla = { s.afterReads [stackAddr (s.sp + 1)] with
      a := s.answerAt (stackAddr (s.sp + 1))
      sp := s.sp + 1
      p := s.p.setZN (s.answerAt (stackAddr (s.sp + 1))) } := rfl

theorem State.plp_eq :
    s.plp = { s.afterReads [stackAddr (s.sp + 1)] with
      sp := s.sp + 1
      p := unpackP (s.answerAt (stackAddr (s.sp + 1))) } := rfl

theorem State.branch_eq (cond : Bool) (d8 : Byte) :
    s.branch cond d8 = { s with pc := if cond then s.pc + sext16 d8 else s.pc } := by
  cases cond <;> rfl

end Sys2Proof.Machine
end

