-- ==== Sys2Proof/Laws/Fetch.lean ====
section
/-! SUPPORT. What fetching an instruction does, and what each transition of `step` is. -/

namespace Sys2Proof.Machine

variable (s : State)

/-- The addresses of `k` bytes from `a` on, modulo 65536. -/
def addrsFrom (a : Word) : Nat → List Word
  | 0 => []
  | k + 1 => a :: addrsFrom (a + 1) k

theorem add_one_add_ofNat (a : Word) (k : Nat) : a + 1 + BitVec.ofNat 16 k = a + BitVec.ofNat 16 (k + 1) := by
  rw [BitVec.add_assoc, BitVec.ofNat_add, BitVec.add_comm (BitVec.ofNat 16 k)]
  rfl

theorem State.fetchByte_eq :
    s.fetchByte = (s.answerAt s.pc, { s.afterReads [s.pc] with pc := s.pc + 1 }) := rfl

/-- Fetching `k` bytes reads the `k` addresses from PC on, in increasing order, and moves PC past them
(20_memory.md R57). -/
theorem State.fetchBytes_eq (k : Nat) :
    s.fetchBytes k = (s.answers (addrsFrom s.pc k),
      { s.afterReads (addrsFrom s.pc k) with pc := s.pc + BitVec.ofNat 16 k }) := by
  induction k generalizing s with
  | zero => simp [State.fetchBytes, addrsFrom]
  | succ k ih =>
    simp [State.fetchBytes, State.fetchByte_eq, ih, addrsFrom, State.answers, State.afterReads, Bus.answersTo,
      Bus.countReads, State.answerAt]
    exact add_one_add_ofNat _ _

/-- Everything a fetch does: the instruction the bytes it reads are, PC past them, and their reads. -/
theorem State.fetch_eq {k : Nat} (hk : k = operandCount s.config.illegalModes (s.answerAt s.pc)) :
    s.fetch = (assemble s.config.illegalModes (s.answerAt s.pc) ((s.answers (addrsFrom s.pc (k + 1))).drop 1),
      { s.afterReads (addrsFrom s.pc (k + 1)) with pc := s.pc + BitVec.ofNat 16 (k + 1) }) := by
  subst hk
  simp [State.fetch, State.fetchByte_eq, State.fetchBytes_eq, addrsFrom, State.answers, State.afterReads, Bus.answersTo,
    Bus.countReads, State.answerAt]
  exact add_one_add_ofNat _ _

theorem State.place_eq (addr : Word) (v : Byte) :
    s.place addr v = if s.config.bus.backingOf addr = .device then
      { s.poke addr v with config := { s.config with bus := s.config.bus.withRamAt addr } } else s.poke addr v := by
  unfold State.place
  split <;> simp_all

/-- A placed byte is the one a read of its address returns, and no other answer changes. -/
theorem State.answerAt_place (addr w : Word) (v : Byte) :
    (s.place addr v).answerAt w = if w = addr then v else s.answerAt w := by
  rw [State.place_eq]
  by_cases hd : s.config.bus.backingOf addr = .device <;> by_cases hw : w = addr <;>
    simp [hd, hw, State.answerAt, State.poke, Bus.answer, Bus.backingOf_withRamAt, Memory.read_write, BitVec.toNat_inj]
  subst hw
  split <;> simp_all

theorem State.place_wf (h : s.mem.wf) (addr : Word) (v : Byte) : (s.place addr v).mem.wf := by
  rw [State.place_eq]
  split <;> exact s.poke_wf h addr v

/-- What a transition is, by the transition asked for; these four and the refusal are all there is. -/
theorem step_reset (h : s.nextRequest = .reset) : step s = .next s.beginTransition.performReset := by
  simp [step, h]

theorem step_interrupt (hr : s.resetDone = true) (h : s.nextRequest = .interrupt) :
    step s = .next s.beginTransition.interrupt := by
  simp [step, h, hr]

theorem step_nmi (hr : s.resetDone = true) (h : s.nextRequest = .nmi) : step s = .next s.beginTransition.nmi := by
  simp [step, h, hr]

theorem step_step (hr : s.resetDone = true) (h : s.nextRequest = .step) :
    step s = exec s.beginTransition.fetch.1 s.beginTransition.fetch.2 := by
  simp [step, h, hr]

/-- The ways a transition can answer a next state. -/
theorem step_cases {s t : State} (h : step s = .next t) :
    (s.nextRequest = .reset ∧ t = s.beginTransition.performReset) ∨
    (s.nextRequest = .interrupt ∧ s.resetDone = true ∧ t = s.beginTransition.interrupt) ∨
    (s.nextRequest = .nmi ∧ s.resetDone = true ∧ t = s.beginTransition.nmi) ∨
    (s.nextRequest = .step ∧ s.resetDone = true ∧
      exec s.beginTransition.fetch.1 s.beginTransition.fetch.2 = .next t) := by
  unfold step at h
  split at h <;> simp_all

end Sys2Proof.Machine
end

