-- ==== Sys2Proof/Laws/Flags.lean ====
section
/-! SUPPORT. What the arithmetic and shift results are, as numbers. -/

namespace Sys2Proof.Machine

/-- The 9-bit sum holds the sum of the operands and the carry (43_logic_arith_compare.md R164). -/
theorem addWithCarry_sum (a m : Byte) (c : Bool) :
    (zext9 a + zext9 m + (BitVec.ofBool c).setWidth 9).toNat = a.toNat + m.toNat + c.toNat := by
  have := a.isLt
  have := m.isLt
  cases c <;> simp [zext9] <;> omega

theorem addWithCarry_value (a m : Byte) (c : Bool) :
    (addWithCarry a m c).value = BitVec.ofNat 8 (a.toNat + m.toNat + c.toNat) := by
  apply BitVec.eq_of_toNat_eq
  simp only [addWithCarry, BitVec.toNat_setWidth, addWithCarry_sum, BitVec.toNat_ofNat]

theorem addWithCarry_carry (a m : Byte) (c : Bool) :
    (addWithCarry a m c).carry = decide (255 < a.toNat + m.toNat + c.toNat) := by
  have := a.isLt
  have := m.isLt
  simp only [addWithCarry, BitVec.getLsbD, addWithCarry_sum]
  rw [Nat.testBit_eq_decide_div_mod_eq]
  cases c <;> simp <;> omega

/-- The one's complement SBC adds (R165). -/
theorem complement_toNat (m : Byte) : (m ^^^ 0xFF#8).toNat = 255 - m.toNat := by
  rw [show 0xFF#8 = BitVec.allOnes 8 from rfl, BitVec.xor_allOnes, BitVec.toNat_not]

/-- SBC is `a - m - (1 - c)` with the borrow as the complement of the carry (R165). -/
theorem subWithCarry_toNat (a m : Byte) (c : Bool) :
    (subWithCarry a m c).value.toNat = (a.toNat + (255 - m.toNat) + c.toNat) % 256 := by
  simp only [subWithCarry, addWithCarry_value, show m ^^^ 0xFF = m ^^^ 0xFF#8 from rfl, complement_toNat,
    BitVec.toNat_ofNat]

theorem subWithCarry_carry (a m : Byte) (c : Bool) :
    (subWithCarry a m c).carry = decide (m.toNat + 1 ≤ a.toNat + c.toNat) := by
  have := m.isLt
  simp only [subWithCarry, addWithCarry_carry, show m ^^^ 0xFF = m ^^^ 0xFF#8 from rfl, complement_toNat]
  rw [decide_eq_decide]
  omega

/-- ASL doubles modulo 256 (44_incdec_shift.md R186). -/
theorem aslByte_value (c : Bool) (m : Byte) : (aslByte c m).value.toNat = 2 * m.toNat % 256 := by
  simp only [aslByte, BitVec.toNat_shiftLeft, Nat.shiftLeft_eq]
  omega

/-- LSR halves (R187). -/
theorem lsrByte_value (c : Bool) (m : Byte) : (lsrByte c m).value.toNat = m.toNat / 2 := by
  simp [lsrByte, BitVec.toNat_ushiftRight, Nat.shiftRight_eq_div_pow]

end Sys2Proof.Machine
end

