-- ==== Sys2Proof/Laws/PerInstr.lean ====
section
/-! SUPPORT. What holds of every instruction as syntax, one lemma for each constructor. -/

namespace Sys2Proof.Laws

/-- The instructions a matrix entry can become, with the operand it takes. -/
inductive Yields : Form → Instr → Prop
  | f1 {i : Instr} : Yields (.f1 i) i
  | f2 {mk : Byte → Instr} (d8 : Byte) : Yields (.f2 mk) (mk d8)
  | f3 {mk : Word → Instr} (a16 : Word) : Yields (.f3 mk) (mk a16)
  | unassigned {mk : Operand → Instr} (o : Operand) : Yields (.unassigned mk) (mk o)

/-- The opcode matrix holds each instruction at its own opcode byte (30_encoding.md R86, R88). -/
def OpcodeForm.Statement (i : Instr) : Prop := Yields (opcodeForm i.opcode) i

/-- An operand has as many bytes as its mode reads (R81, R101). -/
theorem operand_bytes_length (o : Operand) : o.bytes.length = o.mode.operandBytes := by
  cases o with
  | implied => rfl
  | immediate d8 => rfl
  | memory m => cases m <;> rfl

/-- An instruction is one byte longer than the operand of its mode (R80, R81). -/
theorem encode_length (i : Instr) : (encode i).length = 1 + i.operand.mode.operandBytes := by
  rw [encode, List.length_cons, operand_bytes_length, Nat.add_comm]

theorem OpcodeForm.ldaImm (d8 : Byte) : OpcodeForm.Statement (.ldaImm d8) :=
  show Yields (opcodeForm 0xA9#8) _ from Yields.f2 (mk := .ldaImm) d8
theorem OpcodeForm.ldaZp (d8 : Byte) : OpcodeForm.Statement (.ldaZp d8) :=
  show Yields (opcodeForm 0xA5#8) _ from Yields.f2 (mk := .ldaZp) d8
theorem OpcodeForm.ldaZpx (d8 : Byte) : OpcodeForm.Statement (.ldaZpx d8) :=
  show Yields (opcodeForm 0xB5#8) _ from Yields.f2 (mk := .ldaZpx) d8
theorem OpcodeForm.ldaAbs (a16 : Word) : OpcodeForm.Statement (.ldaAbs a16) :=
  show Yields (opcodeForm 0xAD#8) _ from Yields.f3 (mk := .ldaAbs) a16
theorem OpcodeForm.ldaAbx (a16 : Word) : OpcodeForm.Statement (.ldaAbx a16) :=
  show Yields (opcodeForm 0xBD#8) _ from Yields.f3 (mk := .ldaAbx) a16
theorem OpcodeForm.ldaAby (a16 : Word) : OpcodeForm.Statement (.ldaAby a16) :=
  show Yields (opcodeForm 0xB9#8) _ from Yields.f3 (mk := .ldaAby) a16
theorem OpcodeForm.ldaIzx (d8 : Byte) : OpcodeForm.Statement (.ldaIzx d8) :=
  show Yields (opcodeForm 0xA1#8) _ from Yields.f2 (mk := .ldaIzx) d8
theorem OpcodeForm.ldaIzy (d8 : Byte) : OpcodeForm.Statement (.ldaIzy d8) :=
  show Yields (opcodeForm 0xB1#8) _ from Yields.f2 (mk := .ldaIzy) d8
theorem OpcodeForm.ldxImm (d8 : Byte) : OpcodeForm.Statement (.ldxImm d8) :=
  show Yields (opcodeForm 0xA2#8) _ from Yields.f2 (mk := .ldxImm) d8
theorem OpcodeForm.ldxZp (d8 : Byte) : OpcodeForm.Statement (.ldxZp d8) :=
  show Yields (opcodeForm 0xA6#8) _ from Yields.f2 (mk := .ldxZp) d8
theorem OpcodeForm.ldxZpy (d8 : Byte) : OpcodeForm.Statement (.ldxZpy d8) :=
  show Yields (opcodeForm 0xB6#8) _ from Yields.f2 (mk := .ldxZpy) d8
theorem OpcodeForm.ldxAbs (a16 : Word) : OpcodeForm.Statement (.ldxAbs a16) :=
  show Yields (opcodeForm 0xAE#8) _ from Yields.f3 (mk := .ldxAbs) a16
theorem OpcodeForm.ldxAby (a16 : Word) : OpcodeForm.Statement (.ldxAby a16) :=
  show Yields (opcodeForm 0xBE#8) _ from Yields.f3 (mk := .ldxAby) a16
theorem OpcodeForm.ldyImm (d8 : Byte) : OpcodeForm.Statement (.ldyImm d8) :=
  show Yields (opcodeForm 0xA0#8) _ from Yields.f2 (mk := .ldyImm) d8
theorem OpcodeForm.ldyZp (d8 : Byte) : OpcodeForm.Statement (.ldyZp d8) :=
  show Yields (opcodeForm 0xA4#8) _ from Yields.f2 (mk := .ldyZp) d8
theorem OpcodeForm.ldyZpx (d8 : Byte) : OpcodeForm.Statement (.ldyZpx d8) :=
  show Yields (opcodeForm 0xB4#8) _ from Yields.f2 (mk := .ldyZpx) d8
theorem OpcodeForm.ldyAbs (a16 : Word) : OpcodeForm.Statement (.ldyAbs a16) :=
  show Yields (opcodeForm 0xAC#8) _ from Yields.f3 (mk := .ldyAbs) a16
theorem OpcodeForm.ldyAbx (a16 : Word) : OpcodeForm.Statement (.ldyAbx a16) :=
  show Yields (opcodeForm 0xBC#8) _ from Yields.f3 (mk := .ldyAbx) a16
theorem OpcodeForm.staZp (d8 : Byte) : OpcodeForm.Statement (.staZp d8) :=
  show Yields (opcodeForm 0x85#8) _ from Yields.f2 (mk := .staZp) d8
theorem OpcodeForm.staZpx (d8 : Byte) : OpcodeForm.Statement (.staZpx d8) :=
  show Yields (opcodeForm 0x95#8) _ from Yields.f2 (mk := .staZpx) d8
theorem OpcodeForm.staAbs (a16 : Word) : OpcodeForm.Statement (.staAbs a16) :=
  show Yields (opcodeForm 0x8D#8) _ from Yields.f3 (mk := .staAbs) a16
theorem OpcodeForm.staAbx (a16 : Word) : OpcodeForm.Statement (.staAbx a16) :=
  show Yields (opcodeForm 0x9D#8) _ from Yields.f3 (mk := .staAbx) a16
theorem OpcodeForm.staAby (a16 : Word) : OpcodeForm.Statement (.staAby a16) :=
  show Yields (opcodeForm 0x99#8) _ from Yields.f3 (mk := .staAby) a16
theorem OpcodeForm.staIzx (d8 : Byte) : OpcodeForm.Statement (.staIzx d8) :=
  show Yields (opcodeForm 0x81#8) _ from Yields.f2 (mk := .staIzx) d8
theorem OpcodeForm.staIzy (d8 : Byte) : OpcodeForm.Statement (.staIzy d8) :=
  show Yields (opcodeForm 0x91#8) _ from Yields.f2 (mk := .staIzy) d8
theorem OpcodeForm.stxZp (d8 : Byte) : OpcodeForm.Statement (.stxZp d8) :=
  show Yields (opcodeForm 0x86#8) _ from Yields.f2 (mk := .stxZp) d8
theorem OpcodeForm.stxZpy (d8 : Byte) : OpcodeForm.Statement (.stxZpy d8) :=
  show Yields (opcodeForm 0x96#8) _ from Yields.f2 (mk := .stxZpy) d8
theorem OpcodeForm.stxAbs (a16 : Word) : OpcodeForm.Statement (.stxAbs a16) :=
  show Yields (opcodeForm 0x8E#8) _ from Yields.f3 (mk := .stxAbs) a16
theorem OpcodeForm.styZp (d8 : Byte) : OpcodeForm.Statement (.styZp d8) :=
  show Yields (opcodeForm 0x84#8) _ from Yields.f2 (mk := .styZp) d8
theorem OpcodeForm.styZpx (d8 : Byte) : OpcodeForm.Statement (.styZpx d8) :=
  show Yields (opcodeForm 0x94#8) _ from Yields.f2 (mk := .styZpx) d8
theorem OpcodeForm.styAbs (a16 : Word) : OpcodeForm.Statement (.styAbs a16) :=
  show Yields (opcodeForm 0x8C#8) _ from Yields.f3 (mk := .styAbs) a16
theorem OpcodeForm.andImm (d8 : Byte) : OpcodeForm.Statement (.andImm d8) :=
  show Yields (opcodeForm 0x29#8) _ from Yields.f2 (mk := .andImm) d8
theorem OpcodeForm.andZp (d8 : Byte) : OpcodeForm.Statement (.andZp d8) :=
  show Yields (opcodeForm 0x25#8) _ from Yields.f2 (mk := .andZp) d8
theorem OpcodeForm.andZpx (d8 : Byte) : OpcodeForm.Statement (.andZpx d8) :=
  show Yields (opcodeForm 0x35#8) _ from Yields.f2 (mk := .andZpx) d8
theorem OpcodeForm.andAbs (a16 : Word) : OpcodeForm.Statement (.andAbs a16) :=
  show Yields (opcodeForm 0x2D#8) _ from Yields.f3 (mk := .andAbs) a16
theorem OpcodeForm.andAbx (a16 : Word) : OpcodeForm.Statement (.andAbx a16) :=
  show Yields (opcodeForm 0x3D#8) _ from Yields.f3 (mk := .andAbx) a16
theorem OpcodeForm.andAby (a16 : Word) : OpcodeForm.Statement (.andAby a16) :=
  show Yields (opcodeForm 0x39#8) _ from Yields.f3 (mk := .andAby) a16
theorem OpcodeForm.andIzx (d8 : Byte) : OpcodeForm.Statement (.andIzx d8) :=
  show Yields (opcodeForm 0x21#8) _ from Yields.f2 (mk := .andIzx) d8
theorem OpcodeForm.andIzy (d8 : Byte) : OpcodeForm.Statement (.andIzy d8) :=
  show Yields (opcodeForm 0x31#8) _ from Yields.f2 (mk := .andIzy) d8
theorem OpcodeForm.oraImm (d8 : Byte) : OpcodeForm.Statement (.oraImm d8) :=
  show Yields (opcodeForm 0x09#8) _ from Yields.f2 (mk := .oraImm) d8
theorem OpcodeForm.oraZp (d8 : Byte) : OpcodeForm.Statement (.oraZp d8) :=
  show Yields (opcodeForm 0x05#8) _ from Yields.f2 (mk := .oraZp) d8
theorem OpcodeForm.oraZpx (d8 : Byte) : OpcodeForm.Statement (.oraZpx d8) :=
  show Yields (opcodeForm 0x15#8) _ from Yields.f2 (mk := .oraZpx) d8
theorem OpcodeForm.oraAbs (a16 : Word) : OpcodeForm.Statement (.oraAbs a16) :=
  show Yields (opcodeForm 0x0D#8) _ from Yields.f3 (mk := .oraAbs) a16
theorem OpcodeForm.oraAbx (a16 : Word) : OpcodeForm.Statement (.oraAbx a16) :=
  show Yields (opcodeForm 0x1D#8) _ from Yields.f3 (mk := .oraAbx) a16
theorem OpcodeForm.oraAby (a16 : Word) : OpcodeForm.Statement (.oraAby a16) :=
  show Yields (opcodeForm 0x19#8) _ from Yields.f3 (mk := .oraAby) a16
theorem OpcodeForm.oraIzx (d8 : Byte) : OpcodeForm.Statement (.oraIzx d8) :=
  show Yields (opcodeForm 0x01#8) _ from Yields.f2 (mk := .oraIzx) d8
theorem OpcodeForm.oraIzy (d8 : Byte) : OpcodeForm.Statement (.oraIzy d8) :=
  show Yields (opcodeForm 0x11#8) _ from Yields.f2 (mk := .oraIzy) d8
theorem OpcodeForm.eorImm (d8 : Byte) : OpcodeForm.Statement (.eorImm d8) :=
  show Yields (opcodeForm 0x49#8) _ from Yields.f2 (mk := .eorImm) d8
theorem OpcodeForm.eorZp (d8 : Byte) : OpcodeForm.Statement (.eorZp d8) :=
  show Yields (opcodeForm 0x45#8) _ from Yields.f2 (mk := .eorZp) d8
theorem OpcodeForm.eorZpx (d8 : Byte) : OpcodeForm.Statement (.eorZpx d8) :=
  show Yields (opcodeForm 0x55#8) _ from Yields.f2 (mk := .eorZpx) d8
theorem OpcodeForm.eorAbs (a16 : Word) : OpcodeForm.Statement (.eorAbs a16) :=
  show Yields (opcodeForm 0x4D#8) _ from Yields.f3 (mk := .eorAbs) a16
theorem OpcodeForm.eorAbx (a16 : Word) : OpcodeForm.Statement (.eorAbx a16) :=
  show Yields (opcodeForm 0x5D#8) _ from Yields.f3 (mk := .eorAbx) a16
theorem OpcodeForm.eorAby (a16 : Word) : OpcodeForm.Statement (.eorAby a16) :=
  show Yields (opcodeForm 0x59#8) _ from Yields.f3 (mk := .eorAby) a16
theorem OpcodeForm.eorIzx (d8 : Byte) : OpcodeForm.Statement (.eorIzx d8) :=
  show Yields (opcodeForm 0x41#8) _ from Yields.f2 (mk := .eorIzx) d8
theorem OpcodeForm.eorIzy (d8 : Byte) : OpcodeForm.Statement (.eorIzy d8) :=
  show Yields (opcodeForm 0x51#8) _ from Yields.f2 (mk := .eorIzy) d8
theorem OpcodeForm.bitZp (d8 : Byte) : OpcodeForm.Statement (.bitZp d8) :=
  show Yields (opcodeForm 0x24#8) _ from Yields.f2 (mk := .bitZp) d8
theorem OpcodeForm.bitAbs (a16 : Word) : OpcodeForm.Statement (.bitAbs a16) :=
  show Yields (opcodeForm 0x2C#8) _ from Yields.f3 (mk := .bitAbs) a16
theorem OpcodeForm.adcImm (d8 : Byte) : OpcodeForm.Statement (.adcImm d8) :=
  show Yields (opcodeForm 0x69#8) _ from Yields.f2 (mk := .adcImm) d8
theorem OpcodeForm.adcZp (d8 : Byte) : OpcodeForm.Statement (.adcZp d8) :=
  show Yields (opcodeForm 0x65#8) _ from Yields.f2 (mk := .adcZp) d8
theorem OpcodeForm.adcZpx (d8 : Byte) : OpcodeForm.Statement (.adcZpx d8) :=
  show Yields (opcodeForm 0x75#8) _ from Yields.f2 (mk := .adcZpx) d8
theorem OpcodeForm.adcAbs (a16 : Word) : OpcodeForm.Statement (.adcAbs a16) :=
  show Yields (opcodeForm 0x6D#8) _ from Yields.f3 (mk := .adcAbs) a16
theorem OpcodeForm.adcAbx (a16 : Word) : OpcodeForm.Statement (.adcAbx a16) :=
  show Yields (opcodeForm 0x7D#8) _ from Yields.f3 (mk := .adcAbx) a16
theorem OpcodeForm.adcAby (a16 : Word) : OpcodeForm.Statement (.adcAby a16) :=
  show Yields (opcodeForm 0x79#8) _ from Yields.f3 (mk := .adcAby) a16
theorem OpcodeForm.adcIzx (d8 : Byte) : OpcodeForm.Statement (.adcIzx d8) :=
  show Yields (opcodeForm 0x61#8) _ from Yields.f2 (mk := .adcIzx) d8
theorem OpcodeForm.adcIzy (d8 : Byte) : OpcodeForm.Statement (.adcIzy d8) :=
  show Yields (opcodeForm 0x71#8) _ from Yields.f2 (mk := .adcIzy) d8
theorem OpcodeForm.sbcImm (d8 : Byte) : OpcodeForm.Statement (.sbcImm d8) :=
  show Yields (opcodeForm 0xE9#8) _ from Yields.f2 (mk := .sbcImm) d8
theorem OpcodeForm.sbcZp (d8 : Byte) : OpcodeForm.Statement (.sbcZp d8) :=
  show Yields (opcodeForm 0xE5#8) _ from Yields.f2 (mk := .sbcZp) d8
theorem OpcodeForm.sbcZpx (d8 : Byte) : OpcodeForm.Statement (.sbcZpx d8) :=
  show Yields (opcodeForm 0xF5#8) _ from Yields.f2 (mk := .sbcZpx) d8
theorem OpcodeForm.sbcAbs (a16 : Word) : OpcodeForm.Statement (.sbcAbs a16) :=
  show Yields (opcodeForm 0xED#8) _ from Yields.f3 (mk := .sbcAbs) a16
theorem OpcodeForm.sbcAbx (a16 : Word) : OpcodeForm.Statement (.sbcAbx a16) :=
  show Yields (opcodeForm 0xFD#8) _ from Yields.f3 (mk := .sbcAbx) a16
theorem OpcodeForm.sbcAby (a16 : Word) : OpcodeForm.Statement (.sbcAby a16) :=
  show Yields (opcodeForm 0xF9#8) _ from Yields.f3 (mk := .sbcAby) a16
theorem OpcodeForm.sbcIzx (d8 : Byte) : OpcodeForm.Statement (.sbcIzx d8) :=
  show Yields (opcodeForm 0xE1#8) _ from Yields.f2 (mk := .sbcIzx) d8
theorem OpcodeForm.sbcIzy (d8 : Byte) : OpcodeForm.Statement (.sbcIzy d8) :=
  show Yields (opcodeForm 0xF1#8) _ from Yields.f2 (mk := .sbcIzy) d8
theorem OpcodeForm.cmpImm (d8 : Byte) : OpcodeForm.Statement (.cmpImm d8) :=
  show Yields (opcodeForm 0xC9#8) _ from Yields.f2 (mk := .cmpImm) d8
theorem OpcodeForm.cmpZp (d8 : Byte) : OpcodeForm.Statement (.cmpZp d8) :=
  show Yields (opcodeForm 0xC5#8) _ from Yields.f2 (mk := .cmpZp) d8
theorem OpcodeForm.cmpZpx (d8 : Byte) : OpcodeForm.Statement (.cmpZpx d8) :=
  show Yields (opcodeForm 0xD5#8) _ from Yields.f2 (mk := .cmpZpx) d8
theorem OpcodeForm.cmpAbs (a16 : Word) : OpcodeForm.Statement (.cmpAbs a16) :=
  show Yields (opcodeForm 0xCD#8) _ from Yields.f3 (mk := .cmpAbs) a16
theorem OpcodeForm.cmpAbx (a16 : Word) : OpcodeForm.Statement (.cmpAbx a16) :=
  show Yields (opcodeForm 0xDD#8) _ from Yields.f3 (mk := .cmpAbx) a16
theorem OpcodeForm.cmpAby (a16 : Word) : OpcodeForm.Statement (.cmpAby a16) :=
  show Yields (opcodeForm 0xD9#8) _ from Yields.f3 (mk := .cmpAby) a16
theorem OpcodeForm.cmpIzx (d8 : Byte) : OpcodeForm.Statement (.cmpIzx d8) :=
  show Yields (opcodeForm 0xC1#8) _ from Yields.f2 (mk := .cmpIzx) d8
theorem OpcodeForm.cmpIzy (d8 : Byte) : OpcodeForm.Statement (.cmpIzy d8) :=
  show Yields (opcodeForm 0xD1#8) _ from Yields.f2 (mk := .cmpIzy) d8
theorem OpcodeForm.cpxImm (d8 : Byte) : OpcodeForm.Statement (.cpxImm d8) :=
  show Yields (opcodeForm 0xE0#8) _ from Yields.f2 (mk := .cpxImm) d8
theorem OpcodeForm.cpxZp (d8 : Byte) : OpcodeForm.Statement (.cpxZp d8) :=
  show Yields (opcodeForm 0xE4#8) _ from Yields.f2 (mk := .cpxZp) d8
theorem OpcodeForm.cpxAbs (a16 : Word) : OpcodeForm.Statement (.cpxAbs a16) :=
  show Yields (opcodeForm 0xEC#8) _ from Yields.f3 (mk := .cpxAbs) a16
theorem OpcodeForm.cpyImm (d8 : Byte) : OpcodeForm.Statement (.cpyImm d8) :=
  show Yields (opcodeForm 0xC0#8) _ from Yields.f2 (mk := .cpyImm) d8
theorem OpcodeForm.cpyZp (d8 : Byte) : OpcodeForm.Statement (.cpyZp d8) :=
  show Yields (opcodeForm 0xC4#8) _ from Yields.f2 (mk := .cpyZp) d8
theorem OpcodeForm.cpyAbs (a16 : Word) : OpcodeForm.Statement (.cpyAbs a16) :=
  show Yields (opcodeForm 0xCC#8) _ from Yields.f3 (mk := .cpyAbs) a16
theorem OpcodeForm.incZp (d8 : Byte) : OpcodeForm.Statement (.incZp d8) :=
  show Yields (opcodeForm 0xE6#8) _ from Yields.f2 (mk := .incZp) d8
theorem OpcodeForm.incZpx (d8 : Byte) : OpcodeForm.Statement (.incZpx d8) :=
  show Yields (opcodeForm 0xF6#8) _ from Yields.f2 (mk := .incZpx) d8
theorem OpcodeForm.incAbs (a16 : Word) : OpcodeForm.Statement (.incAbs a16) :=
  show Yields (opcodeForm 0xEE#8) _ from Yields.f3 (mk := .incAbs) a16
theorem OpcodeForm.incAbx (a16 : Word) : OpcodeForm.Statement (.incAbx a16) :=
  show Yields (opcodeForm 0xFE#8) _ from Yields.f3 (mk := .incAbx) a16
theorem OpcodeForm.decZp (d8 : Byte) : OpcodeForm.Statement (.decZp d8) :=
  show Yields (opcodeForm 0xC6#8) _ from Yields.f2 (mk := .decZp) d8
theorem OpcodeForm.decZpx (d8 : Byte) : OpcodeForm.Statement (.decZpx d8) :=
  show Yields (opcodeForm 0xD6#8) _ from Yields.f2 (mk := .decZpx) d8
theorem OpcodeForm.decAbs (a16 : Word) : OpcodeForm.Statement (.decAbs a16) :=
  show Yields (opcodeForm 0xCE#8) _ from Yields.f3 (mk := .decAbs) a16
theorem OpcodeForm.decAbx (a16 : Word) : OpcodeForm.Statement (.decAbx a16) :=
  show Yields (opcodeForm 0xDE#8) _ from Yields.f3 (mk := .decAbx) a16
theorem OpcodeForm.aslZp (d8 : Byte) : OpcodeForm.Statement (.aslZp d8) :=
  show Yields (opcodeForm 0x06#8) _ from Yields.f2 (mk := .aslZp) d8
theorem OpcodeForm.aslZpx (d8 : Byte) : OpcodeForm.Statement (.aslZpx d8) :=
  show Yields (opcodeForm 0x16#8) _ from Yields.f2 (mk := .aslZpx) d8
theorem OpcodeForm.aslAbs (a16 : Word) : OpcodeForm.Statement (.aslAbs a16) :=
  show Yields (opcodeForm 0x0E#8) _ from Yields.f3 (mk := .aslAbs) a16
theorem OpcodeForm.aslAbx (a16 : Word) : OpcodeForm.Statement (.aslAbx a16) :=
  show Yields (opcodeForm 0x1E#8) _ from Yields.f3 (mk := .aslAbx) a16
theorem OpcodeForm.lsrZp (d8 : Byte) : OpcodeForm.Statement (.lsrZp d8) :=
  show Yields (opcodeForm 0x46#8) _ from Yields.f2 (mk := .lsrZp) d8
theorem OpcodeForm.lsrZpx (d8 : Byte) : OpcodeForm.Statement (.lsrZpx d8) :=
  show Yields (opcodeForm 0x56#8) _ from Yields.f2 (mk := .lsrZpx) d8
theorem OpcodeForm.lsrAbs (a16 : Word) : OpcodeForm.Statement (.lsrAbs a16) :=
  show Yields (opcodeForm 0x4E#8) _ from Yields.f3 (mk := .lsrAbs) a16
theorem OpcodeForm.lsrAbx (a16 : Word) : OpcodeForm.Statement (.lsrAbx a16) :=
  show Yields (opcodeForm 0x5E#8) _ from Yields.f3 (mk := .lsrAbx) a16
theorem OpcodeForm.rolZp (d8 : Byte) : OpcodeForm.Statement (.rolZp d8) :=
  show Yields (opcodeForm 0x26#8) _ from Yields.f2 (mk := .rolZp) d8
theorem OpcodeForm.rolZpx (d8 : Byte) : OpcodeForm.Statement (.rolZpx d8) :=
  show Yields (opcodeForm 0x36#8) _ from Yields.f2 (mk := .rolZpx) d8
theorem OpcodeForm.rolAbs (a16 : Word) : OpcodeForm.Statement (.rolAbs a16) :=
  show Yields (opcodeForm 0x2E#8) _ from Yields.f3 (mk := .rolAbs) a16
theorem OpcodeForm.rolAbx (a16 : Word) : OpcodeForm.Statement (.rolAbx a16) :=
  show Yields (opcodeForm 0x3E#8) _ from Yields.f3 (mk := .rolAbx) a16
theorem OpcodeForm.rorZp (d8 : Byte) : OpcodeForm.Statement (.rorZp d8) :=
  show Yields (opcodeForm 0x66#8) _ from Yields.f2 (mk := .rorZp) d8
theorem OpcodeForm.rorZpx (d8 : Byte) : OpcodeForm.Statement (.rorZpx d8) :=
  show Yields (opcodeForm 0x76#8) _ from Yields.f2 (mk := .rorZpx) d8
theorem OpcodeForm.rorAbs (a16 : Word) : OpcodeForm.Statement (.rorAbs a16) :=
  show Yields (opcodeForm 0x6E#8) _ from Yields.f3 (mk := .rorAbs) a16
theorem OpcodeForm.rorAbx (a16 : Word) : OpcodeForm.Statement (.rorAbx a16) :=
  show Yields (opcodeForm 0x7E#8) _ from Yields.f3 (mk := .rorAbx) a16
theorem OpcodeForm.jmpAbs (a16 : Word) : OpcodeForm.Statement (.jmpAbs a16) :=
  show Yields (opcodeForm 0x4C#8) _ from Yields.f3 (mk := .jmpAbs) a16
theorem OpcodeForm.jmpInd (a16 : Word) : OpcodeForm.Statement (.jmpInd a16) :=
  show Yields (opcodeForm 0x6C#8) _ from Yields.f3 (mk := .jmpInd) a16
theorem OpcodeForm.jsr (a16 : Word) : OpcodeForm.Statement (.jsr a16) :=
  show Yields (opcodeForm 0x20#8) _ from Yields.f3 (mk := .jsr) a16
theorem OpcodeForm.bcc (d8 : Byte) : OpcodeForm.Statement (.bcc d8) :=
  show Yields (opcodeForm 0x90#8) _ from Yields.f2 (mk := .bcc) d8
theorem OpcodeForm.bcs (d8 : Byte) : OpcodeForm.Statement (.bcs d8) :=
  show Yields (opcodeForm 0xB0#8) _ from Yields.f2 (mk := .bcs) d8
theorem OpcodeForm.bne (d8 : Byte) : OpcodeForm.Statement (.bne d8) :=
  show Yields (opcodeForm 0xD0#8) _ from Yields.f2 (mk := .bne) d8
theorem OpcodeForm.beq (d8 : Byte) : OpcodeForm.Statement (.beq d8) :=
  show Yields (opcodeForm 0xF0#8) _ from Yields.f2 (mk := .beq) d8
theorem OpcodeForm.bpl (d8 : Byte) : OpcodeForm.Statement (.bpl d8) :=
  show Yields (opcodeForm 0x10#8) _ from Yields.f2 (mk := .bpl) d8
theorem OpcodeForm.bmi (d8 : Byte) : OpcodeForm.Statement (.bmi d8) :=
  show Yields (opcodeForm 0x30#8) _ from Yields.f2 (mk := .bmi) d8
theorem OpcodeForm.bvc (d8 : Byte) : OpcodeForm.Statement (.bvc d8) :=
  show Yields (opcodeForm 0x50#8) _ from Yields.f2 (mk := .bvc) d8
theorem OpcodeForm.bvs (d8 : Byte) : OpcodeForm.Statement (.bvs d8) :=
  show Yields (opcodeForm 0x70#8) _ from Yields.f2 (mk := .bvs) d8
theorem OpcodeForm.ill02 (o : Operand) : OpcodeForm.Statement (.ill02 o) :=
  show Yields (opcodeForm 0x02#8) _ from Yields.unassigned (mk := .ill02) o
theorem OpcodeForm.ill03 (o : Operand) : OpcodeForm.Statement (.ill03 o) :=
  show Yields (opcodeForm 0x03#8) _ from Yields.unassigned (mk := .ill03) o
theorem OpcodeForm.ill04 (o : Operand) : OpcodeForm.Statement (.ill04 o) :=
  show Yields (opcodeForm 0x04#8) _ from Yields.unassigned (mk := .ill04) o
theorem OpcodeForm.ill07 (o : Operand) : OpcodeForm.Statement (.ill07 o) :=
  show Yields (opcodeForm 0x07#8) _ from Yields.unassigned (mk := .ill07) o
theorem OpcodeForm.ill0B (o : Operand) : OpcodeForm.Statement (.ill0B o) :=
  show Yields (opcodeForm 0x0B#8) _ from Yields.unassigned (mk := .ill0B) o
theorem OpcodeForm.ill0C (o : Operand) : OpcodeForm.Statement (.ill0C o) :=
  show Yields (opcodeForm 0x0C#8) _ from Yields.unassigned (mk := .ill0C) o
theorem OpcodeForm.ill0F (o : Operand) : OpcodeForm.Statement (.ill0F o) :=
  show Yields (opcodeForm 0x0F#8) _ from Yields.unassigned (mk := .ill0F) o
theorem OpcodeForm.ill12 (o : Operand) : OpcodeForm.Statement (.ill12 o) :=
  show Yields (opcodeForm 0x12#8) _ from Yields.unassigned (mk := .ill12) o
theorem OpcodeForm.ill13 (o : Operand) : OpcodeForm.Statement (.ill13 o) :=
  show Yields (opcodeForm 0x13#8) _ from Yields.unassigned (mk := .ill13) o
theorem OpcodeForm.ill14 (o : Operand) : OpcodeForm.Statement (.ill14 o) :=
  show Yields (opcodeForm 0x14#8) _ from Yields.unassigned (mk := .ill14) o
theorem OpcodeForm.ill17 (o : Operand) : OpcodeForm.Statement (.ill17 o) :=
  show Yields (opcodeForm 0x17#8) _ from Yields.unassigned (mk := .ill17) o
theorem OpcodeForm.ill1A (o : Operand) : OpcodeForm.Statement (.ill1A o) :=
  show Yields (opcodeForm 0x1A#8) _ from Yields.unassigned (mk := .ill1A) o
theorem OpcodeForm.ill1B (o : Operand) : OpcodeForm.Statement (.ill1B o) :=
  show Yields (opcodeForm 0x1B#8) _ from Yields.unassigned (mk := .ill1B) o
theorem OpcodeForm.ill1C (o : Operand) : OpcodeForm.Statement (.ill1C o) :=
  show Yields (opcodeForm 0x1C#8) _ from Yields.unassigned (mk := .ill1C) o
theorem OpcodeForm.ill1F (o : Operand) : OpcodeForm.Statement (.ill1F o) :=
  show Yields (opcodeForm 0x1F#8) _ from Yields.unassigned (mk := .ill1F) o
theorem OpcodeForm.ill22 (o : Operand) : OpcodeForm.Statement (.ill22 o) :=
  show Yields (opcodeForm 0x22#8) _ from Yields.unassigned (mk := .ill22) o
theorem OpcodeForm.ill23 (o : Operand) : OpcodeForm.Statement (.ill23 o) :=
  show Yields (opcodeForm 0x23#8) _ from Yields.unassigned (mk := .ill23) o
theorem OpcodeForm.ill27 (o : Operand) : OpcodeForm.Statement (.ill27 o) :=
  show Yields (opcodeForm 0x27#8) _ from Yields.unassigned (mk := .ill27) o
theorem OpcodeForm.ill2B (o : Operand) : OpcodeForm.Statement (.ill2B o) :=
  show Yields (opcodeForm 0x2B#8) _ from Yields.unassigned (mk := .ill2B) o
theorem OpcodeForm.ill2F (o : Operand) : OpcodeForm.Statement (.ill2F o) :=
  show Yields (opcodeForm 0x2F#8) _ from Yields.unassigned (mk := .ill2F) o
theorem OpcodeForm.ill32 (o : Operand) : OpcodeForm.Statement (.ill32 o) :=
  show Yields (opcodeForm 0x32#8) _ from Yields.unassigned (mk := .ill32) o
theorem OpcodeForm.ill33 (o : Operand) : OpcodeForm.Statement (.ill33 o) :=
  show Yields (opcodeForm 0x33#8) _ from Yields.unassigned (mk := .ill33) o
theorem OpcodeForm.ill34 (o : Operand) : OpcodeForm.Statement (.ill34 o) :=
  show Yields (opcodeForm 0x34#8) _ from Yields.unassigned (mk := .ill34) o
theorem OpcodeForm.ill37 (o : Operand) : OpcodeForm.Statement (.ill37 o) :=
  show Yields (opcodeForm 0x37#8) _ from Yields.unassigned (mk := .ill37) o
theorem OpcodeForm.ill3A (o : Operand) : OpcodeForm.Statement (.ill3A o) :=
  show Yields (opcodeForm 0x3A#8) _ from Yields.unassigned (mk := .ill3A) o
theorem OpcodeForm.ill3B (o : Operand) : OpcodeForm.Statement (.ill3B o) :=
  show Yields (opcodeForm 0x3B#8) _ from Yields.unassigned (mk := .ill3B) o
theorem OpcodeForm.ill3C (o : Operand) : OpcodeForm.Statement (.ill3C o) :=
  show Yields (opcodeForm 0x3C#8) _ from Yields.unassigned (mk := .ill3C) o
theorem OpcodeForm.ill3F (o : Operand) : OpcodeForm.Statement (.ill3F o) :=
  show Yields (opcodeForm 0x3F#8) _ from Yields.unassigned (mk := .ill3F) o
theorem OpcodeForm.ill42 (o : Operand) : OpcodeForm.Statement (.ill42 o) :=
  show Yields (opcodeForm 0x42#8) _ from Yields.unassigned (mk := .ill42) o
theorem OpcodeForm.ill43 (o : Operand) : OpcodeForm.Statement (.ill43 o) :=
  show Yields (opcodeForm 0x43#8) _ from Yields.unassigned (mk := .ill43) o
theorem OpcodeForm.ill44 (o : Operand) : OpcodeForm.Statement (.ill44 o) :=
  show Yields (opcodeForm 0x44#8) _ from Yields.unassigned (mk := .ill44) o
theorem OpcodeForm.ill47 (o : Operand) : OpcodeForm.Statement (.ill47 o) :=
  show Yields (opcodeForm 0x47#8) _ from Yields.unassigned (mk := .ill47) o
theorem OpcodeForm.ill4B (o : Operand) : OpcodeForm.Statement (.ill4B o) :=
  show Yields (opcodeForm 0x4B#8) _ from Yields.unassigned (mk := .ill4B) o
theorem OpcodeForm.ill4F (o : Operand) : OpcodeForm.Statement (.ill4F o) :=
  show Yields (opcodeForm 0x4F#8) _ from Yields.unassigned (mk := .ill4F) o
theorem OpcodeForm.ill52 (o : Operand) : OpcodeForm.Statement (.ill52 o) :=
  show Yields (opcodeForm 0x52#8) _ from Yields.unassigned (mk := .ill52) o
theorem OpcodeForm.ill53 (o : Operand) : OpcodeForm.Statement (.ill53 o) :=
  show Yields (opcodeForm 0x53#8) _ from Yields.unassigned (mk := .ill53) o
theorem OpcodeForm.ill54 (o : Operand) : OpcodeForm.Statement (.ill54 o) :=
  show Yields (opcodeForm 0x54#8) _ from Yields.unassigned (mk := .ill54) o
theorem OpcodeForm.ill57 (o : Operand) : OpcodeForm.Statement (.ill57 o) :=
  show Yields (opcodeForm 0x57#8) _ from Yields.unassigned (mk := .ill57) o
theorem OpcodeForm.ill5A (o : Operand) : OpcodeForm.Statement (.ill5A o) :=
  show Yields (opcodeForm 0x5A#8) _ from Yields.unassigned (mk := .ill5A) o
theorem OpcodeForm.ill5B (o : Operand) : OpcodeForm.Statement (.ill5B o) :=
  show Yields (opcodeForm 0x5B#8) _ from Yields.unassigned (mk := .ill5B) o
theorem OpcodeForm.ill5C (o : Operand) : OpcodeForm.Statement (.ill5C o) :=
  show Yields (opcodeForm 0x5C#8) _ from Yields.unassigned (mk := .ill5C) o
theorem OpcodeForm.ill5F (o : Operand) : OpcodeForm.Statement (.ill5F o) :=
  show Yields (opcodeForm 0x5F#8) _ from Yields.unassigned (mk := .ill5F) o
theorem OpcodeForm.ill62 (o : Operand) : OpcodeForm.Statement (.ill62 o) :=
  show Yields (opcodeForm 0x62#8) _ from Yields.unassigned (mk := .ill62) o
theorem OpcodeForm.ill63 (o : Operand) : OpcodeForm.Statement (.ill63 o) :=
  show Yields (opcodeForm 0x63#8) _ from Yields.unassigned (mk := .ill63) o
theorem OpcodeForm.ill64 (o : Operand) : OpcodeForm.Statement (.ill64 o) :=
  show Yields (opcodeForm 0x64#8) _ from Yields.unassigned (mk := .ill64) o
theorem OpcodeForm.ill67 (o : Operand) : OpcodeForm.Statement (.ill67 o) :=
  show Yields (opcodeForm 0x67#8) _ from Yields.unassigned (mk := .ill67) o
theorem OpcodeForm.ill6B (o : Operand) : OpcodeForm.Statement (.ill6B o) :=
  show Yields (opcodeForm 0x6B#8) _ from Yields.unassigned (mk := .ill6B) o
theorem OpcodeForm.ill6F (o : Operand) : OpcodeForm.Statement (.ill6F o) :=
  show Yields (opcodeForm 0x6F#8) _ from Yields.unassigned (mk := .ill6F) o
theorem OpcodeForm.ill72 (o : Operand) : OpcodeForm.Statement (.ill72 o) :=
  show Yields (opcodeForm 0x72#8) _ from Yields.unassigned (mk := .ill72) o
theorem OpcodeForm.ill73 (o : Operand) : OpcodeForm.Statement (.ill73 o) :=
  show Yields (opcodeForm 0x73#8) _ from Yields.unassigned (mk := .ill73) o
theorem OpcodeForm.ill74 (o : Operand) : OpcodeForm.Statement (.ill74 o) :=
  show Yields (opcodeForm 0x74#8) _ from Yields.unassigned (mk := .ill74) o
theorem OpcodeForm.ill77 (o : Operand) : OpcodeForm.Statement (.ill77 o) :=
  show Yields (opcodeForm 0x77#8) _ from Yields.unassigned (mk := .ill77) o
theorem OpcodeForm.ill7A (o : Operand) : OpcodeForm.Statement (.ill7A o) :=
  show Yields (opcodeForm 0x7A#8) _ from Yields.unassigned (mk := .ill7A) o
theorem OpcodeForm.ill7B (o : Operand) : OpcodeForm.Statement (.ill7B o) :=
  show Yields (opcodeForm 0x7B#8) _ from Yields.unassigned (mk := .ill7B) o
theorem OpcodeForm.ill7C (o : Operand) : OpcodeForm.Statement (.ill7C o) :=
  show Yields (opcodeForm 0x7C#8) _ from Yields.unassigned (mk := .ill7C) o
theorem OpcodeForm.ill7F (o : Operand) : OpcodeForm.Statement (.ill7F o) :=
  show Yields (opcodeForm 0x7F#8) _ from Yields.unassigned (mk := .ill7F) o
theorem OpcodeForm.ill80 (o : Operand) : OpcodeForm.Statement (.ill80 o) :=
  show Yields (opcodeForm 0x80#8) _ from Yields.unassigned (mk := .ill80) o
theorem OpcodeForm.ill82 (o : Operand) : OpcodeForm.Statement (.ill82 o) :=
  show Yields (opcodeForm 0x82#8) _ from Yields.unassigned (mk := .ill82) o
theorem OpcodeForm.ill83 (o : Operand) : OpcodeForm.Statement (.ill83 o) :=
  show Yields (opcodeForm 0x83#8) _ from Yields.unassigned (mk := .ill83) o
theorem OpcodeForm.ill87 (o : Operand) : OpcodeForm.Statement (.ill87 o) :=
  show Yields (opcodeForm 0x87#8) _ from Yields.unassigned (mk := .ill87) o
theorem OpcodeForm.ill89 (o : Operand) : OpcodeForm.Statement (.ill89 o) :=
  show Yields (opcodeForm 0x89#8) _ from Yields.unassigned (mk := .ill89) o
theorem OpcodeForm.ill8B (o : Operand) : OpcodeForm.Statement (.ill8B o) :=
  show Yields (opcodeForm 0x8B#8) _ from Yields.unassigned (mk := .ill8B) o
theorem OpcodeForm.ill8F (o : Operand) : OpcodeForm.Statement (.ill8F o) :=
  show Yields (opcodeForm 0x8F#8) _ from Yields.unassigned (mk := .ill8F) o
theorem OpcodeForm.ill92 (o : Operand) : OpcodeForm.Statement (.ill92 o) :=
  show Yields (opcodeForm 0x92#8) _ from Yields.unassigned (mk := .ill92) o
theorem OpcodeForm.ill93 (o : Operand) : OpcodeForm.Statement (.ill93 o) :=
  show Yields (opcodeForm 0x93#8) _ from Yields.unassigned (mk := .ill93) o
theorem OpcodeForm.ill97 (o : Operand) : OpcodeForm.Statement (.ill97 o) :=
  show Yields (opcodeForm 0x97#8) _ from Yields.unassigned (mk := .ill97) o
theorem OpcodeForm.ill9B (o : Operand) : OpcodeForm.Statement (.ill9B o) :=
  show Yields (opcodeForm 0x9B#8) _ from Yields.unassigned (mk := .ill9B) o
theorem OpcodeForm.ill9C (o : Operand) : OpcodeForm.Statement (.ill9C o) :=
  show Yields (opcodeForm 0x9C#8) _ from Yields.unassigned (mk := .ill9C) o
theorem OpcodeForm.ill9E (o : Operand) : OpcodeForm.Statement (.ill9E o) :=
  show Yields (opcodeForm 0x9E#8) _ from Yields.unassigned (mk := .ill9E) o
theorem OpcodeForm.ill9F (o : Operand) : OpcodeForm.Statement (.ill9F o) :=
  show Yields (opcodeForm 0x9F#8) _ from Yields.unassigned (mk := .ill9F) o
theorem OpcodeForm.illA3 (o : Operand) : OpcodeForm.Statement (.illA3 o) :=
  show Yields (opcodeForm 0xA3#8) _ from Yields.unassigned (mk := .illA3) o
theorem OpcodeForm.illA7 (o : Operand) : OpcodeForm.Statement (.illA7 o) :=
  show Yields (opcodeForm 0xA7#8) _ from Yields.unassigned (mk := .illA7) o
theorem OpcodeForm.illAB (o : Operand) : OpcodeForm.Statement (.illAB o) :=
  show Yields (opcodeForm 0xAB#8) _ from Yields.unassigned (mk := .illAB) o
theorem OpcodeForm.illAF (o : Operand) : OpcodeForm.Statement (.illAF o) :=
  show Yields (opcodeForm 0xAF#8) _ from Yields.unassigned (mk := .illAF) o
theorem OpcodeForm.illB2 (o : Operand) : OpcodeForm.Statement (.illB2 o) :=
  show Yields (opcodeForm 0xB2#8) _ from Yields.unassigned (mk := .illB2) o
theorem OpcodeForm.illB3 (o : Operand) : OpcodeForm.Statement (.illB3 o) :=
  show Yields (opcodeForm 0xB3#8) _ from Yields.unassigned (mk := .illB3) o
theorem OpcodeForm.illB7 (o : Operand) : OpcodeForm.Statement (.illB7 o) :=
  show Yields (opcodeForm 0xB7#8) _ from Yields.unassigned (mk := .illB7) o
theorem OpcodeForm.illBB (o : Operand) : OpcodeForm.Statement (.illBB o) :=
  show Yields (opcodeForm 0xBB#8) _ from Yields.unassigned (mk := .illBB) o
theorem OpcodeForm.illBF (o : Operand) : OpcodeForm.Statement (.illBF o) :=
  show Yields (opcodeForm 0xBF#8) _ from Yields.unassigned (mk := .illBF) o
theorem OpcodeForm.illC2 (o : Operand) : OpcodeForm.Statement (.illC2 o) :=
  show Yields (opcodeForm 0xC2#8) _ from Yields.unassigned (mk := .illC2) o
theorem OpcodeForm.illC3 (o : Operand) : OpcodeForm.Statement (.illC3 o) :=
  show Yields (opcodeForm 0xC3#8) _ from Yields.unassigned (mk := .illC3) o
theorem OpcodeForm.illC7 (o : Operand) : OpcodeForm.Statement (.illC7 o) :=
  show Yields (opcodeForm 0xC7#8) _ from Yields.unassigned (mk := .illC7) o
theorem OpcodeForm.illCB (o : Operand) : OpcodeForm.Statement (.illCB o) :=
  show Yields (opcodeForm 0xCB#8) _ from Yields.unassigned (mk := .illCB) o
theorem OpcodeForm.illCF (o : Operand) : OpcodeForm.Statement (.illCF o) :=
  show Yields (opcodeForm 0xCF#8) _ from Yields.unassigned (mk := .illCF) o
theorem OpcodeForm.illD2 (o : Operand) : OpcodeForm.Statement (.illD2 o) :=
  show Yields (opcodeForm 0xD2#8) _ from Yields.unassigned (mk := .illD2) o
theorem OpcodeForm.illD3 (o : Operand) : OpcodeForm.Statement (.illD3 o) :=
  show Yields (opcodeForm 0xD3#8) _ from Yields.unassigned (mk := .illD3) o
theorem OpcodeForm.illD4 (o : Operand) : OpcodeForm.Statement (.illD4 o) :=
  show Yields (opcodeForm 0xD4#8) _ from Yields.unassigned (mk := .illD4) o
theorem OpcodeForm.illD7 (o : Operand) : OpcodeForm.Statement (.illD7 o) :=
  show Yields (opcodeForm 0xD7#8) _ from Yields.unassigned (mk := .illD7) o
theorem OpcodeForm.illDA (o : Operand) : OpcodeForm.Statement (.illDA o) :=
  show Yields (opcodeForm 0xDA#8) _ from Yields.unassigned (mk := .illDA) o
theorem OpcodeForm.illDB (o : Operand) : OpcodeForm.Statement (.illDB o) :=
  show Yields (opcodeForm 0xDB#8) _ from Yields.unassigned (mk := .illDB) o
theorem OpcodeForm.illDC (o : Operand) : OpcodeForm.Statement (.illDC o) :=
  show Yields (opcodeForm 0xDC#8) _ from Yields.unassigned (mk := .illDC) o
theorem OpcodeForm.illDF (o : Operand) : OpcodeForm.Statement (.illDF o) :=
  show Yields (opcodeForm 0xDF#8) _ from Yields.unassigned (mk := .illDF) o
theorem OpcodeForm.illE2 (o : Operand) : OpcodeForm.Statement (.illE2 o) :=
  show Yields (opcodeForm 0xE2#8) _ from Yields.unassigned (mk := .illE2) o
theorem OpcodeForm.illE3 (o : Operand) : OpcodeForm.Statement (.illE3 o) :=
  show Yields (opcodeForm 0xE3#8) _ from Yields.unassigned (mk := .illE3) o
theorem OpcodeForm.illE7 (o : Operand) : OpcodeForm.Statement (.illE7 o) :=
  show Yields (opcodeForm 0xE7#8) _ from Yields.unassigned (mk := .illE7) o
theorem OpcodeForm.illEB (o : Operand) : OpcodeForm.Statement (.illEB o) :=
  show Yields (opcodeForm 0xEB#8) _ from Yields.unassigned (mk := .illEB) o
theorem OpcodeForm.illEF (o : Operand) : OpcodeForm.Statement (.illEF o) :=
  show Yields (opcodeForm 0xEF#8) _ from Yields.unassigned (mk := .illEF) o
theorem OpcodeForm.illF2 (o : Operand) : OpcodeForm.Statement (.illF2 o) :=
  show Yields (opcodeForm 0xF2#8) _ from Yields.unassigned (mk := .illF2) o
theorem OpcodeForm.illF3 (o : Operand) : OpcodeForm.Statement (.illF3 o) :=
  show Yields (opcodeForm 0xF3#8) _ from Yields.unassigned (mk := .illF3) o
theorem OpcodeForm.illF4 (o : Operand) : OpcodeForm.Statement (.illF4 o) :=
  show Yields (opcodeForm 0xF4#8) _ from Yields.unassigned (mk := .illF4) o
theorem OpcodeForm.illF7 (o : Operand) : OpcodeForm.Statement (.illF7 o) :=
  show Yields (opcodeForm 0xF7#8) _ from Yields.unassigned (mk := .illF7) o
theorem OpcodeForm.illFA (o : Operand) : OpcodeForm.Statement (.illFA o) :=
  show Yields (opcodeForm 0xFA#8) _ from Yields.unassigned (mk := .illFA) o
theorem OpcodeForm.illFB (o : Operand) : OpcodeForm.Statement (.illFB o) :=
  show Yields (opcodeForm 0xFB#8) _ from Yields.unassigned (mk := .illFB) o
theorem OpcodeForm.illFC (o : Operand) : OpcodeForm.Statement (.illFC o) :=
  show Yields (opcodeForm 0xFC#8) _ from Yields.unassigned (mk := .illFC) o
theorem OpcodeForm.illFF (o : Operand) : OpcodeForm.Statement (.illFF o) :=
  show Yields (opcodeForm 0xFF#8) _ from Yields.unassigned (mk := .illFF) o
theorem OpcodeForm.tax : OpcodeForm.Statement .tax :=
  show Yields (opcodeForm 0xAA#8) _ from Yields.f1
theorem OpcodeForm.tay : OpcodeForm.Statement .tay :=
  show Yields (opcodeForm 0xA8#8) _ from Yields.f1
theorem OpcodeForm.txa : OpcodeForm.Statement .txa :=
  show Yields (opcodeForm 0x8A#8) _ from Yields.f1
theorem OpcodeForm.tya : OpcodeForm.Statement .tya :=
  show Yields (opcodeForm 0x98#8) _ from Yields.f1
theorem OpcodeForm.tsx : OpcodeForm.Statement .tsx :=
  show Yields (opcodeForm 0xBA#8) _ from Yields.f1
theorem OpcodeForm.txs : OpcodeForm.Statement .txs :=
  show Yields (opcodeForm 0x9A#8) _ from Yields.f1
theorem OpcodeForm.pha : OpcodeForm.Statement .pha :=
  show Yields (opcodeForm 0x48#8) _ from Yields.f1
theorem OpcodeForm.php : OpcodeForm.Statement .php :=
  show Yields (opcodeForm 0x08#8) _ from Yields.f1
theorem OpcodeForm.pla : OpcodeForm.Statement .pla :=
  show Yields (opcodeForm 0x68#8) _ from Yields.f1
theorem OpcodeForm.plp : OpcodeForm.Statement .plp :=
  show Yields (opcodeForm 0x28#8) _ from Yields.f1
theorem OpcodeForm.inx : OpcodeForm.Statement .inx :=
  show Yields (opcodeForm 0xE8#8) _ from Yields.f1
theorem OpcodeForm.dex : OpcodeForm.Statement .dex :=
  show Yields (opcodeForm 0xCA#8) _ from Yields.f1
theorem OpcodeForm.iny : OpcodeForm.Statement .iny :=
  show Yields (opcodeForm 0xC8#8) _ from Yields.f1
theorem OpcodeForm.dey : OpcodeForm.Statement .dey :=
  show Yields (opcodeForm 0x88#8) _ from Yields.f1
theorem OpcodeForm.aslA : OpcodeForm.Statement .aslA :=
  show Yields (opcodeForm 0x0A#8) _ from Yields.f1
theorem OpcodeForm.lsrA : OpcodeForm.Statement .lsrA :=
  show Yields (opcodeForm 0x4A#8) _ from Yields.f1
theorem OpcodeForm.rolA : OpcodeForm.Statement .rolA :=
  show Yields (opcodeForm 0x2A#8) _ from Yields.f1
theorem OpcodeForm.rorA : OpcodeForm.Statement .rorA :=
  show Yields (opcodeForm 0x6A#8) _ from Yields.f1
theorem OpcodeForm.rts : OpcodeForm.Statement .rts :=
  show Yields (opcodeForm 0x60#8) _ from Yields.f1
theorem OpcodeForm.clc : OpcodeForm.Statement .clc :=
  show Yields (opcodeForm 0x18#8) _ from Yields.f1
theorem OpcodeForm.cld : OpcodeForm.Statement .cld :=
  show Yields (opcodeForm 0xD8#8) _ from Yields.f1
theorem OpcodeForm.cli : OpcodeForm.Statement .cli :=
  show Yields (opcodeForm 0x58#8) _ from Yields.f1
theorem OpcodeForm.clv : OpcodeForm.Statement .clv :=
  show Yields (opcodeForm 0xB8#8) _ from Yields.f1
theorem OpcodeForm.sec : OpcodeForm.Statement .sec :=
  show Yields (opcodeForm 0x38#8) _ from Yields.f1
theorem OpcodeForm.sed : OpcodeForm.Statement .sed :=
  show Yields (opcodeForm 0xF8#8) _ from Yields.f1
theorem OpcodeForm.sei : OpcodeForm.Statement .sei :=
  show Yields (opcodeForm 0x78#8) _ from Yields.f1
theorem OpcodeForm.brk : OpcodeForm.Statement .brk :=
  show Yields (opcodeForm 0x00#8) _ from Yields.f1
theorem OpcodeForm.nop : OpcodeForm.Statement .nop :=
  show Yields (opcodeForm 0xEA#8) _ from Yields.f1
theorem OpcodeForm.rti : OpcodeForm.Statement .rti :=
  show Yields (opcodeForm 0x40#8) _ from Yields.f1

end Sys2Proof.Laws
end

