-- ==== Sys2Proof/Machine/Assembly.lean ====
section
/-! DEFINITION. The assembler's view of an instruction (30_encoding.md R92): its text, and the displacement the
assembler computes for a branch. Nothing in the machine depends on it. -/

namespace Sys2Proof

/-- The three-letter mnemonic of an operation; the no-op of the unassigned opcodes has none (R84, R92). -/
def Handler.mnemonic : Handler → Option String
  | .lda => some "LDA"
  | .ldx => some "LDX"
  | .ldy => some "LDY"
  | .sta => some "STA"
  | .stx => some "STX"
  | .sty => some "STY"
  | .tax => some "TAX"
  | .tay => some "TAY"
  | .txa => some "TXA"
  | .tya => some "TYA"
  | .tsx => some "TSX"
  | .txs => some "TXS"
  | .pha => some "PHA"
  | .php => some "PHP"
  | .pla => some "PLA"
  | .plp => some "PLP"
  | .and => some "AND"
  | .ora => some "ORA"
  | .eor => some "EOR"
  | .bit => some "BIT"
  | .adc => some "ADC"
  | .sbc => some "SBC"
  | .cmp => some "CMP"
  | .cpx => some "CPX"
  | .cpy => some "CPY"
  | .inc => some "INC"
  | .dec => some "DEC"
  | .inx => some "INX"
  | .dex => some "DEX"
  | .iny => some "INY"
  | .dey => some "DEY"
  | .asl => some "ASL"
  | .lsr => some "LSR"
  | .rol => some "ROL"
  | .ror => some "ROR"
  | .jmp => some "JMP"
  | .jsr => some "JSR"
  | .rts => some "RTS"
  | .bcc => some "BCC"
  | .bcs => some "BCS"
  | .bne => some "BNE"
  | .beq => some "BEQ"
  | .bpl => some "BPL"
  | .bmi => some "BMI"
  | .bvc => some "BVC"
  | .bvs => some "BVS"
  | .clc => some "CLC"
  | .cld => some "CLD"
  | .cli => some "CLI"
  | .clv => some "CLV"
  | .sec => some "SEC"
  | .sed => some "SED"
  | .sei => some "SEI"
  | .brk => some "BRK"
  | .nop => some "NOP"
  | .rti => some "RTI"
  | .noOp => none

/-- The branches: their operand byte is written as the target address (R92). -/
def Handler.isBranch : Handler → Bool
  | .bcc | .bcs | .bne | .beq | .bpl | .bmi | .bvc | .bvs => true
  | _ => false

/-- The shifts: their implied form is written with `A` (R92). -/
def Handler.isShift : Handler → Bool
  | .asl | .lsr | .rol | .ror => true
  | _ => false

/-- A hexadecimal digit. -/
def hexDigit (n : Nat) : Char := ['0', '1', '2', '3', '4', '5', '6', '7', '8', '9', 'A', 'B', 'C', 'D', 'E', 'F'].getD n '0'

/-- `$nn`. -/
def hexByte (v : Byte) : List Char := ['$', hexDigit (v.toNat / 16), hexDigit (v.toNat % 16)]

/-- `$nnnn`. -/
def hexWord (w : Word) : List Char := '$' :: (hexByte (hiByte w)).tail ++ (hexByte (loByte w)).tail

/-- A memory operand in the syntax of its mode (R92). -/
def MemOperand.text : MemOperand → List Char
  | .zeroPage d8 => hexByte d8
  | .zeroPageX d8 => hexByte d8 ++ [',', 'X']
  | .zeroPageY d8 => hexByte d8 ++ [',', 'Y']
  | .absolute a16 => hexWord a16
  | .absoluteX a16 => hexWord a16 ++ [',', 'X']
  | .absoluteY a16 => hexWord a16 ++ [',', 'Y']
  | .indirect a16 => '(' :: hexWord a16 ++ [')']
  | .indirectX d8 => '(' :: hexByte d8 ++ [',', 'X', ')']
  | .indirectY d8 => '(' :: hexByte d8 ++ [')', ',', 'Y']

/-- The address a taken branch at `a` with displacement `d8` goes to (45_control_transfer.md R205). -/
def branchTarget (a : Word) (d8 : Byte) : Word := a + 2 + sext16 d8

/-- The displacement the assembler computes for a branch at `a` to `target`: `target - (a + 2)`, which must lie in
-128 to 127 (R92). -/
def branchDisplacement (a target : Word) : Option Byte :=
  let d := (target - (a + 2)).toInt
  if -128 ≤ d ∧ d ≤ 127 then some (BitVec.ofInt 8 d) else none

/-- The assembler text of the instruction at address `a` (R92), as characters; an unassigned opcode has none. -/
def Instr.text (i : Instr) (a : Word) : Option (List Char) :=
  i.handler.mnemonic.map fun mnemonic =>
    mnemonic.toList ++ match i.operand with
      | .implied => if i.handler.isShift then [' ', 'A'] else []
      | .immediate d8 => if i.handler.isBranch then ' ' :: hexWord (branchTarget a d8) else ' ' :: '#' :: hexByte d8
      | .memory m => ' ' :: m.text

end Sys2Proof
end

