-- ==== Sys2Proof/Tests/Slice0.lean ====
section
/-! SUPPORT. This package's own tests. Expected results are the vectors of 95_test_vectors.md and the examples of the
rules, never the model's answers; a vector's id stands before the rules it cites. -/

namespace Sys2Proof.Tests

open Machine

/-- The status with these eight bits, in the layout of 10_state.md R26. -/
def statusOf (v : Byte) : Status :=
  ⟨v.getLsbD 7, v.getLsbD 6, v.getLsbD 5, v.getLsbD 4, v.getLsbD 3, v.getLsbD 2, v.getLsbD 1, v.getLsbD 0⟩

/-- A state after the first reset of an instance with RESET_PC_SOURCE = fixed, BRK_PAD = 0, ILLEGAL_MODE = implied and
plain RAM as BUS, with these registers (PC, A, X, Y, SP, packed P) and bytes of memory, and nothing asked for but `step`. -/
def start (pc : Word) (a x y sp p : Byte) (mem : List (Word × Byte)) : State where
  a := a
  x := x
  y := y
  sp := sp
  pc := pc
  p := statusOf p
  mem := mem.foldr (fun c m => Memory.write m c.1.toNat c.2) []
  config := ⟨.fixed, 0x0600, false, ⟨.implied, []⟩, .plainRam⟩
  deviceReads := 0
  requests := []
  bus := []
  resetDone := true

/-- The state in which the environment asks for `r` next. -/
def asked (r : Request) (s : State) : State := { s with requests := r :: s.requests }

/-- The state of another instance. -/
def withConfig (f : Config → Config) (s : State) : State := { s with config := f s.config }

/-- The transition ends in a next state with these registers (PC, A, X, Y, SP, packed P) and these bus transactions. -/
def shows (o : Outcome) (regs : List Nat) (bus : List BusEvent) : Bool :=
  match o with
  | .next t =>
    [t.pc.toNat, t.a.toNat, t.x.toNat, t.y.toNat, t.sp.toNat, t.p.byte.toNat] == regs && t.bus == bus
  | _ => false

/-! ### Ill-formed instructions are refused, and every instruction's bytes decode to it -/

/-- The one check of `Instr.wf`: the operand of an unassigned opcode is of the mode ILLEGAL_MODE gives it (R90). -/
theorem test_wf_refuses_wrong_operand_mode :
    (Instr.ill02 (.immediate 0x11)).wf ⟨.implied, []⟩ = false ∧ (Instr.ill02 .implied).wf ⟨.implied, []⟩ = true ∧
      (Instr.ill02 .implied).wf ⟨.implied, [(0x02, .absolute)]⟩ = false := by decide

/-- Every operand byte of a documented instruction is legal (R91). -/
theorem test_wf_admits_documented : (Instr.ldaImm 0xFF).wf ⟨.implied, []⟩ = true := by decide

/-- Each row's bytes decode to the row's instruction, with nothing left over. -/
def decodes (m : IllegalModes) (rows : List (List Byte × Instr)) : Bool :=
  rows.all fun row => decode m row.1 == .instr row.2 []

/-- Words of 30_encoding.md R88, with operand byte `0x34` or operand word `0x1234` (R81, R82). -/
theorem test_decode_load_store_transfer_1 :
    decodes ⟨.implied, []⟩
      [([0xA9, 0x34], .ldaImm 0x34), ([0xA5, 0x34], .ldaZp 0x34), ([0xB5, 0x34], .ldaZpx 0x34),
       ([0xAD, 0x34, 0x12], .ldaAbs 0x1234), ([0xBD, 0x34, 0x12], .ldaAbx 0x1234), ([0xB9, 0x34, 0x12], .ldaAby 0x1234),
       ([0xA1, 0x34], .ldaIzx 0x34), ([0xB1, 0x34], .ldaIzy 0x34), ([0xA2, 0x34], .ldxImm 0x34),
       ([0xA6, 0x34], .ldxZp 0x34), ([0xB6, 0x34], .ldxZpy 0x34), ([0xAE, 0x34, 0x12], .ldxAbs 0x1234),
       ([0xBE, 0x34, 0x12], .ldxAby 0x1234), ([0xA0, 0x34], .ldyImm 0x34)] = true := by decide

/-- Words of 30_encoding.md R88, with operand byte `0x34` or operand word `0x1234` (R81, R82). -/
theorem test_decode_load_store_transfer_2 :
    decodes ⟨.implied, []⟩
      [([0xA4, 0x34], .ldyZp 0x34), ([0xB4, 0x34], .ldyZpx 0x34), ([0xAC, 0x34, 0x12], .ldyAbs 0x1234),
       ([0xBC, 0x34, 0x12], .ldyAbx 0x1234), ([0x85, 0x34], .staZp 0x34), ([0x95, 0x34], .staZpx 0x34),
       ([0x8D, 0x34, 0x12], .staAbs 0x1234), ([0x9D, 0x34, 0x12], .staAbx 0x1234), ([0x99, 0x34, 0x12], .staAby 0x1234),
       ([0x81, 0x34], .staIzx 0x34), ([0x91, 0x34], .staIzy 0x34), ([0x86, 0x34], .stxZp 0x34),
       ([0x96, 0x34], .stxZpy 0x34), ([0x8E, 0x34, 0x12], .stxAbs 0x1234)] = true := by decide

/-- Words of 30_encoding.md R88, with operand byte `0x34` or operand word `0x1234` (R81, R82). -/
theorem test_decode_load_store_transfer_3 :
    decodes ⟨.implied, []⟩
      [([0x84, 0x34], .styZp 0x34), ([0x94, 0x34], .styZpx 0x34), ([0x8C, 0x34, 0x12], .styAbs 0x1234),
       ([0xAA], .tax), ([0xA8], .tay), ([0x8A], .txa),
       ([0x98], .tya), ([0xBA], .tsx), ([0x9A], .txs)] = true := by decide

/-- Words of 30_encoding.md R88, with operand byte `0x34` or operand word `0x1234` (R81, R82). -/
theorem test_decode_stack :
    decodes ⟨.implied, []⟩
      [([0x48], .pha), ([0x08], .php), ([0x68], .pla),
       ([0x28], .plp)] = true := by decide

/-- Words of 30_encoding.md R88, with operand byte `0x34` or operand word `0x1234` (R81, R82). -/
theorem test_decode_logic_arith_compare_1 :
    decodes ⟨.implied, []⟩
      [([0x29, 0x34], .andImm 0x34), ([0x25, 0x34], .andZp 0x34), ([0x35, 0x34], .andZpx 0x34),
       ([0x2D, 0x34, 0x12], .andAbs 0x1234), ([0x3D, 0x34, 0x12], .andAbx 0x1234), ([0x39, 0x34, 0x12], .andAby 0x1234),
       ([0x21, 0x34], .andIzx 0x34), ([0x31, 0x34], .andIzy 0x34), ([0x09, 0x34], .oraImm 0x34),
       ([0x05, 0x34], .oraZp 0x34), ([0x15, 0x34], .oraZpx 0x34), ([0x0D, 0x34, 0x12], .oraAbs 0x1234),
       ([0x1D, 0x34, 0x12], .oraAbx 0x1234), ([0x19, 0x34, 0x12], .oraAby 0x1234)] = true := by decide

/-- Words of 30_encoding.md R88, with operand byte `0x34` or operand word `0x1234` (R81, R82). -/
theorem test_decode_logic_arith_compare_2 :
    decodes ⟨.implied, []⟩
      [([0x01, 0x34], .oraIzx 0x34), ([0x11, 0x34], .oraIzy 0x34), ([0x49, 0x34], .eorImm 0x34),
       ([0x45, 0x34], .eorZp 0x34), ([0x55, 0x34], .eorZpx 0x34), ([0x4D, 0x34, 0x12], .eorAbs 0x1234),
       ([0x5D, 0x34, 0x12], .eorAbx 0x1234), ([0x59, 0x34, 0x12], .eorAby 0x1234), ([0x41, 0x34], .eorIzx 0x34),
       ([0x51, 0x34], .eorIzy 0x34), ([0x24, 0x34], .bitZp 0x34), ([0x2C, 0x34, 0x12], .bitAbs 0x1234),
       ([0x69, 0x34], .adcImm 0x34), ([0x65, 0x34], .adcZp 0x34)] = true := by decide

/-- Words of 30_encoding.md R88, with operand byte `0x34` or operand word `0x1234` (R81, R82). -/
theorem test_decode_logic_arith_compare_3 :
    decodes ⟨.implied, []⟩
      [([0x75, 0x34], .adcZpx 0x34), ([0x6D, 0x34, 0x12], .adcAbs 0x1234), ([0x7D, 0x34, 0x12], .adcAbx 0x1234),
       ([0x79, 0x34, 0x12], .adcAby 0x1234), ([0x61, 0x34], .adcIzx 0x34), ([0x71, 0x34], .adcIzy 0x34),
       ([0xE9, 0x34], .sbcImm 0x34), ([0xE5, 0x34], .sbcZp 0x34), ([0xF5, 0x34], .sbcZpx 0x34),
       ([0xED, 0x34, 0x12], .sbcAbs 0x1234), ([0xFD, 0x34, 0x12], .sbcAbx 0x1234), ([0xF9, 0x34, 0x12], .sbcAby 0x1234),
       ([0xE1, 0x34], .sbcIzx 0x34), ([0xF1, 0x34], .sbcIzy 0x34)] = true := by decide

/-- Words of 30_encoding.md R88, with operand byte `0x34` or operand word `0x1234` (R81, R82). -/
theorem test_decode_logic_arith_compare_4 :
    decodes ⟨.implied, []⟩
      [([0xC9, 0x34], .cmpImm 0x34), ([0xC5, 0x34], .cmpZp 0x34), ([0xD5, 0x34], .cmpZpx 0x34),
       ([0xCD, 0x34, 0x12], .cmpAbs 0x1234), ([0xDD, 0x34, 0x12], .cmpAbx 0x1234), ([0xD9, 0x34, 0x12], .cmpAby 0x1234),
       ([0xC1, 0x34], .cmpIzx 0x34), ([0xD1, 0x34], .cmpIzy 0x34), ([0xE0, 0x34], .cpxImm 0x34),
       ([0xE4, 0x34], .cpxZp 0x34), ([0xEC, 0x34, 0x12], .cpxAbs 0x1234), ([0xC0, 0x34], .cpyImm 0x34),
       ([0xC4, 0x34], .cpyZp 0x34), ([0xCC, 0x34, 0x12], .cpyAbs 0x1234)] = true := by decide

/-- Words of 30_encoding.md R88, with operand byte `0x34` or operand word `0x1234` (R81, R82). -/
theorem test_decode_inc_dec :
    decodes ⟨.implied, []⟩
      [([0xE6, 0x34], .incZp 0x34), ([0xF6, 0x34], .incZpx 0x34), ([0xEE, 0x34, 0x12], .incAbs 0x1234),
       ([0xFE, 0x34, 0x12], .incAbx 0x1234), ([0xC6, 0x34], .decZp 0x34), ([0xD6, 0x34], .decZpx 0x34),
       ([0xCE, 0x34, 0x12], .decAbs 0x1234), ([0xDE, 0x34, 0x12], .decAbx 0x1234), ([0xE8], .inx),
       ([0xCA], .dex), ([0xC8], .iny), ([0x88], .dey)] = true := by decide

/-- Words of 30_encoding.md R88, with operand byte `0x34` or operand word `0x1234` (R81, R82). -/
theorem test_decode_shift_1 :
    decodes ⟨.implied, []⟩
      [([0x0A], .aslA), ([0x06, 0x34], .aslZp 0x34), ([0x16, 0x34], .aslZpx 0x34),
       ([0x0E, 0x34, 0x12], .aslAbs 0x1234), ([0x1E, 0x34, 0x12], .aslAbx 0x1234), ([0x4A], .lsrA),
       ([0x46, 0x34], .lsrZp 0x34), ([0x56, 0x34], .lsrZpx 0x34), ([0x4E, 0x34, 0x12], .lsrAbs 0x1234),
       ([0x5E, 0x34, 0x12], .lsrAbx 0x1234), ([0x2A], .rolA), ([0x26, 0x34], .rolZp 0x34),
       ([0x36, 0x34], .rolZpx 0x34), ([0x2E, 0x34, 0x12], .rolAbs 0x1234)] = true := by decide

/-- Words of 30_encoding.md R88, with operand byte `0x34` or operand word `0x1234` (R81, R82). -/
theorem test_decode_shift_2 :
    decodes ⟨.implied, []⟩
      [([0x3E, 0x34, 0x12], .rolAbx 0x1234), ([0x6A], .rorA), ([0x66, 0x34], .rorZp 0x34),
       ([0x76, 0x34], .rorZpx 0x34), ([0x6E, 0x34, 0x12], .rorAbs 0x1234), ([0x7E, 0x34, 0x12], .rorAbx 0x1234)] = true := by decide

/-- Words of 30_encoding.md R88, with operand byte `0x34` or operand word `0x1234` (R81, R82). -/
theorem test_decode_control_transfer :
    decodes ⟨.implied, []⟩
      [([0x4C, 0x34, 0x12], .jmpAbs 0x1234), ([0x6C, 0x34, 0x12], .jmpInd 0x1234), ([0x20, 0x34, 0x12], .jsr 0x1234),
       ([0x60], .rts), ([0x90, 0x34], .bcc 0x34), ([0xB0, 0x34], .bcs 0x34),
       ([0xD0, 0x34], .bne 0x34), ([0xF0, 0x34], .beq 0x34), ([0x10, 0x34], .bpl 0x34),
       ([0x30, 0x34], .bmi 0x34), ([0x50, 0x34], .bvc 0x34), ([0x70, 0x34], .bvs 0x34)] = true := by decide

/-- Words of 30_encoding.md R88, with operand byte `0x34` or operand word `0x1234` (R81, R82). -/
theorem test_decode_flags_system :
    decodes ⟨.implied, []⟩
      [([0x18], .clc), ([0xD8], .cld), ([0x58], .cli),
       ([0xB8], .clv), ([0x38], .sec), ([0xF8], .sed),
       ([0x78], .sei), ([0x00], .brk), ([0xEA], .nop),
       ([0x40], .rti)] = true := by decide

/-- Unassigned bytes of R89 under ILLEGAL_MODE = implied (R90). -/
theorem test_decode_unassigned_implied :
    decodes ⟨.implied, []⟩
      [([0x02], .ill02 .implied), ([0x1A], .ill1A .implied), ([0x34], .ill34 .implied),
       ([0x4F], .ill4F .implied), ([0x64], .ill64 .implied), ([0x7F], .ill7F .implied),
       ([0x9B], .ill9B .implied), ([0xBB], .illBB .implied), ([0xDA], .illDA .implied),
       ([0xF4], .illF4 .implied)] = true := by decide

/-- Unassigned bytes of R89 under ILLEGAL_MODE = immediate (R90). -/
theorem test_decode_unassigned_immediate :
    decodes ⟨.immediate, []⟩
      [([0x03, 0x34], .ill03 (.immediate 0x34)), ([0x1B, 0x34], .ill1B (.immediate 0x34)), ([0x37, 0x34], .ill37 (.immediate 0x34)),
       ([0x52, 0x34], .ill52 (.immediate 0x34)), ([0x67, 0x34], .ill67 (.immediate 0x34)), ([0x80, 0x34], .ill80 (.immediate 0x34)),
       ([0x9C, 0x34], .ill9C (.immediate 0x34)), ([0xBF, 0x34], .illBF (.immediate 0x34)), ([0xDB, 0x34], .illDB (.immediate 0x34)),
       ([0xF7, 0x34], .illF7 (.immediate 0x34))] = true := by decide

/-- Unassigned bytes of R89 under ILLEGAL_MODE = zeroPage (R90). -/
theorem test_decode_unassigned_zero_page :
    decodes ⟨.zeroPage, []⟩
      [([0x04, 0x34], .ill04 (.memory (.zeroPage 0x34))), ([0x1C, 0x34], .ill1C (.memory (.zeroPage 0x34))), ([0x3A, 0x34], .ill3A (.memory (.zeroPage 0x34))),
       ([0x53, 0x34], .ill53 (.memory (.zeroPage 0x34))), ([0x6B, 0x34], .ill6B (.memory (.zeroPage 0x34))), ([0x82, 0x34], .ill82 (.memory (.zeroPage 0x34))),
       ([0x9E, 0x34], .ill9E (.memory (.zeroPage 0x34))), ([0xC2, 0x34], .illC2 (.memory (.zeroPage 0x34))), ([0xDC, 0x34], .illDC (.memory (.zeroPage 0x34))),
       ([0xFA, 0x34], .illFA (.memory (.zeroPage 0x34)))] = true := by decide

/-- Unassigned bytes of R89 under ILLEGAL_MODE = zeroPageX (R90). -/
theorem test_decode_unassigned_zero_page_x :
    decodes ⟨.zeroPageX, []⟩
      [([0x07, 0x34], .ill07 (.memory (.zeroPageX 0x34))), ([0x1F, 0x34], .ill1F (.memory (.zeroPageX 0x34))), ([0x3B, 0x34], .ill3B (.memory (.zeroPageX 0x34))),
       ([0x54, 0x34], .ill54 (.memory (.zeroPageX 0x34))), ([0x6F, 0x34], .ill6F (.memory (.zeroPageX 0x34))), ([0x83, 0x34], .ill83 (.memory (.zeroPageX 0x34))),
       ([0x9F, 0x34], .ill9F (.memory (.zeroPageX 0x34))), ([0xC3, 0x34], .illC3 (.memory (.zeroPageX 0x34))), ([0xDF, 0x34], .illDF (.memory (.zeroPageX 0x34))),
       ([0xFB, 0x34], .illFB (.memory (.zeroPageX 0x34)))] = true := by decide

/-- Unassigned bytes of R89 under ILLEGAL_MODE = zeroPageY (R90). -/
theorem test_decode_unassigned_zero_page_y :
    decodes ⟨.zeroPageY, []⟩
      [([0x0B, 0x34], .ill0B (.memory (.zeroPageY 0x34))), ([0x22, 0x34], .ill22 (.memory (.zeroPageY 0x34))), ([0x3C, 0x34], .ill3C (.memory (.zeroPageY 0x34))),
       ([0x57, 0x34], .ill57 (.memory (.zeroPageY 0x34))), ([0x72, 0x34], .ill72 (.memory (.zeroPageY 0x34))), ([0x87, 0x34], .ill87 (.memory (.zeroPageY 0x34))),
       ([0xA3, 0x34], .illA3 (.memory (.zeroPageY 0x34))), ([0xC7, 0x34], .illC7 (.memory (.zeroPageY 0x34))), ([0xE2, 0x34], .illE2 (.memory (.zeroPageY 0x34))),
       ([0xFC, 0x34], .illFC (.memory (.zeroPageY 0x34)))] = true := by decide

/-- Unassigned bytes of R89 under ILLEGAL_MODE = absolute (R90). -/
theorem test_decode_unassigned_absolute :
    decodes ⟨.absolute, []⟩
      [([0x0C, 0x34, 0x12], .ill0C (.memory (.absolute 0x1234))), ([0x23, 0x34, 0x12], .ill23 (.memory (.absolute 0x1234))), ([0x3F, 0x34, 0x12], .ill3F (.memory (.absolute 0x1234))),
       ([0x5A, 0x34, 0x12], .ill5A (.memory (.absolute 0x1234))), ([0x73, 0x34, 0x12], .ill73 (.memory (.absolute 0x1234))), ([0x89, 0x34, 0x12], .ill89 (.memory (.absolute 0x1234))),
       ([0xA7, 0x34, 0x12], .illA7 (.memory (.absolute 0x1234))), ([0xCB, 0x34, 0x12], .illCB (.memory (.absolute 0x1234))), ([0xE3, 0x34, 0x12], .illE3 (.memory (.absolute 0x1234))),
       ([0xFF, 0x34, 0x12], .illFF (.memory (.absolute 0x1234)))] = true := by decide

/-- Unassigned bytes of R89 under ILLEGAL_MODE = absoluteX (R90). -/
theorem test_decode_unassigned_absolute_x :
    decodes ⟨.absoluteX, []⟩
      [([0x0F, 0x34, 0x12], .ill0F (.memory (.absoluteX 0x1234))), ([0x27, 0x34, 0x12], .ill27 (.memory (.absoluteX 0x1234))), ([0x42, 0x34, 0x12], .ill42 (.memory (.absoluteX 0x1234))),
       ([0x5B, 0x34, 0x12], .ill5B (.memory (.absoluteX 0x1234))), ([0x74, 0x34, 0x12], .ill74 (.memory (.absoluteX 0x1234))), ([0x8B, 0x34, 0x12], .ill8B (.memory (.absoluteX 0x1234))),
       ([0xAB, 0x34, 0x12], .illAB (.memory (.absoluteX 0x1234))), ([0xCF, 0x34, 0x12], .illCF (.memory (.absoluteX 0x1234))), ([0xE7, 0x34, 0x12], .illE7 (.memory (.absoluteX 0x1234)))] = true := by decide

/-- Unassigned bytes of R89 under ILLEGAL_MODE = absoluteY (R90). -/
theorem test_decode_unassigned_absolute_y :
    decodes ⟨.absoluteY, []⟩
      [([0x12, 0x34, 0x12], .ill12 (.memory (.absoluteY 0x1234))), ([0x2B, 0x34, 0x12], .ill2B (.memory (.absoluteY 0x1234))), ([0x43, 0x34, 0x12], .ill43 (.memory (.absoluteY 0x1234))),
       ([0x5C, 0x34, 0x12], .ill5C (.memory (.absoluteY 0x1234))), ([0x77, 0x34, 0x12], .ill77 (.memory (.absoluteY 0x1234))), ([0x8F, 0x34, 0x12], .ill8F (.memory (.absoluteY 0x1234))),
       ([0xAF, 0x34, 0x12], .illAF (.memory (.absoluteY 0x1234))), ([0xD2, 0x34, 0x12], .illD2 (.memory (.absoluteY 0x1234))), ([0xEB, 0x34, 0x12], .illEB (.memory (.absoluteY 0x1234)))] = true := by decide

/-- Unassigned bytes of R89 under ILLEGAL_MODE = indirect (R90). -/
theorem test_decode_unassigned_indirect :
    decodes ⟨.indirect, []⟩
      [([0x13, 0x34, 0x12], .ill13 (.memory (.indirect 0x1234))), ([0x2F, 0x34, 0x12], .ill2F (.memory (.indirect 0x1234))), ([0x44, 0x34, 0x12], .ill44 (.memory (.indirect 0x1234))),
       ([0x5F, 0x34, 0x12], .ill5F (.memory (.indirect 0x1234))), ([0x7A, 0x34, 0x12], .ill7A (.memory (.indirect 0x1234))), ([0x92, 0x34, 0x12], .ill92 (.memory (.indirect 0x1234))),
       ([0xB2, 0x34, 0x12], .illB2 (.memory (.indirect 0x1234))), ([0xD3, 0x34, 0x12], .illD3 (.memory (.indirect 0x1234))), ([0xEF, 0x34, 0x12], .illEF (.memory (.indirect 0x1234)))] = true := by decide

/-- Unassigned bytes of R89 under ILLEGAL_MODE = indirectX (R90). -/
theorem test_decode_unassigned_indirect_x :
    decodes ⟨.indirectX, []⟩
      [([0x14, 0x34], .ill14 (.memory (.indirectX 0x34))), ([0x32, 0x34], .ill32 (.memory (.indirectX 0x34))), ([0x47, 0x34], .ill47 (.memory (.indirectX 0x34))),
       ([0x62, 0x34], .ill62 (.memory (.indirectX 0x34))), ([0x7B, 0x34], .ill7B (.memory (.indirectX 0x34))), ([0x93, 0x34], .ill93 (.memory (.indirectX 0x34))),
       ([0xB3, 0x34], .illB3 (.memory (.indirectX 0x34))), ([0xD4, 0x34], .illD4 (.memory (.indirectX 0x34))), ([0xF2, 0x34], .illF2 (.memory (.indirectX 0x34)))] = true := by decide

/-- Unassigned bytes of R89 under ILLEGAL_MODE = indirectY (R90). -/
theorem test_decode_unassigned_indirect_y :
    decodes ⟨.indirectY, []⟩
      [([0x17, 0x34], .ill17 (.memory (.indirectY 0x34))), ([0x33, 0x34], .ill33 (.memory (.indirectY 0x34))), ([0x4B, 0x34], .ill4B (.memory (.indirectY 0x34))),
       ([0x63, 0x34], .ill63 (.memory (.indirectY 0x34))), ([0x7C, 0x34], .ill7C (.memory (.indirectY 0x34))), ([0x97, 0x34], .ill97 (.memory (.indirectY 0x34))),
       ([0xB7, 0x34], .illB7 (.memory (.indirectY 0x34))), ([0xD7, 0x34], .illD7 (.memory (.indirectY 0x34))), ([0xF3, 0x34], .illF3 (.memory (.indirectY 0x34)))] = true := by decide

/-- A sequence shorter than its instruction is rejected (R80). -/
theorem test_decode_truncated :
    decode ⟨.implied, []⟩ [] = .rejected .truncated ∧ decode ⟨.implied, []⟩ [0xA9] = .rejected .truncated ∧
      decode ⟨.implied, []⟩ [0x8D, 0x00] = .rejected .truncated ∧
      decode ⟨.absolute, []⟩ [0x02, 0x11] = .rejected .truncated := by decide

/-- The bytes of `STA $0200` in increasing address order (R81, R92). -/
theorem test_encode_sta_absolute : encode (.staAbs 0x0200) = [0x8D, 0x00, 0x02] := by decide

/-- The host's entry reads the bytes in the same order: `8D 00 02` as a number (R81). -/
theorem test_decodeTableWord_sta_absolute : decodeTableWord 24 0x02008D = some (.staAbs 0x0200) := by decide

/-- An instruction placed after reset is the one the next step runs: `LDA #$05` (R130). -/
theorem test_withFetchWord_runs_lda :
    (match step (State.reset.withFetchWord 16 0x05A9) with
      | .next t => t.a == 0x05 && t.pc == State.reset.pc + 2
      | _ => false) = true := by decide

/-- The examples of 30_encoding.md R92. -/
theorem test_text_of_instructions :
    Instr.text .inx 0x0600 = some "INX".toList ∧ Instr.text .aslA 0x0600 = some "ASL A".toList ∧
      (Instr.ldaImm 0x05).text 0x0600 = some "LDA #$05".toList ∧
      (Instr.ldxZpy 0x10).text 0x0600 = some "LDX $10,Y".toList ∧
      (Instr.staAbs 0x0200).text 0x0600 = some "STA $0200".toList ∧
      (Instr.jmpInd 0x30FF).text 0x0600 = some "JMP ($30FF)".toList ∧
      (Instr.ldaIzx 0x20).text 0x0600 = some "LDA ($20,X)".toList ∧
      (Instr.ldaIzy 0x20).text 0x0600 = some "LDA ($20),Y".toList ∧
      (Instr.bne 0xF9).text 0x060A = some "BNE $0605".toList := by decide

/-- The displacement of `BNE $0605` at `$060A`, and both ends of a branch's reach (R92, R205). -/
theorem test_branch_displacement :
    branchDisplacement 0x060A 0x0605 = some 0xF9 ∧ branchDisplacement 0x0600 0x0681 = some 0x7F ∧
      branchDisplacement 0x0600 0x0682 = none ∧ branchDisplacement 0x0600 0x0582 = some 0x80 ∧
      branchDisplacement 0x0600 0x0581 = none := by decide

/-- Memory keeps its canonical form: storing what an unlisted address reads as removes the entry. -/
theorem test_memory_write_canonical :
    ((Memory.write [] 5 0x11).write 3 0x22).write 5 0x00 = [(3, 0x22)] := by decide

/-- A run ends at a jump to itself (70_reset_and_hazards.md R279). -/
theorem test_ends_run : EndsRun (start 0x0600 0 0 0 0xFF 0x30 [(0x0600, 0x4C), (0x0601, 0x00), (0x0602, 0x06)]) :=
  ⟨rfl, _, rfl, rfl⟩

/-- Before the first reset `step` is refused (10_state.md R45). -/
theorem test_step_before_reset :
    step { start 0x0600 0 0 0 0xFF 0x30 [] with resetDone := false } = .refused .beforeReset := rfl

/-! ### One transition from each vector -/

/-- V1.1 (R130, R104) -/
theorem test_lda_zp_V1_1 :
    shows (step (start 0x0600 0x00 0x00 0x00 0xFF 0x30 [(0x0600, 0xA5), (0x0601, 0x80), (0x0080, 0x11)]))
      [0x0602, 0x11, 0x00, 0x00, 0xFF, 0x30]
      [.read 0x0600 0xA5, .read 0x0601 0x80, .read 0x0080 0x11] = true := by decide

/-- V1.2 (R130, R105) -/
theorem test_lda_zpx_V1_2 :
    shows (step (start 0x0600 0x00 0x02 0x00 0xFF 0x30 [(0x0600, 0xB5), (0x0601, 0xFF), (0x0001, 0x22), (0x0101, 0x99)]))
      [0x0602, 0x22, 0x02, 0x00, 0xFF, 0x30]
      [.read 0x0600 0xB5, .read 0x0601 0xFF, .read 0x0001 0x22] = true := by decide

/-- V1.3 (R131, R106) -/
theorem test_ldx_zpy_V1_3 :
    shows (step (start 0x0600 0x00 0x00 0x20 0xFF 0x30 [(0x0600, 0xB6), (0x0601, 0xF0), (0x0010, 0x33), (0x0110, 0x99)]))
      [0x0602, 0x00, 0x33, 0x20, 0xFF, 0x30]
      [.read 0x0600 0xB6, .read 0x0601 0xF0, .read 0x0010 0x33] = true := by decide

/-- V1.4 (R130, R107) -/
theorem test_lda_abs_V1_4 :
    shows (step (start 0x0600 0x00 0x00 0x00 0xFF 0x30 [(0x0600, 0xAD), (0x0601, 0x34), (0x0602, 0x12), (0x1234, 0x44)]))
      [0x0603, 0x44, 0x00, 0x00, 0xFF, 0x30]
      [.read 0x0600 0xAD, .read 0x0601 0x34, .read 0x0602 0x12, .read 0x1234 0x44] = true := by decide

/-- V1.5 (R130, R108) -/
theorem test_lda_abx_V1_5 :
    shows (step (start 0x0600 0x00 0x01 0x00 0xFF 0x30 [(0x0600, 0xBD), (0x0601, 0xFF), (0x0602, 0x12), (0x1300, 0x55)]))
      [0x0603, 0x55, 0x01, 0x00, 0xFF, 0x30]
      [.read 0x0600 0xBD, .read 0x0601 0xFF, .read 0x0602 0x12, .read 0x1300 0x55] = true := by decide

/-- V1.6 (R130, R108) -/
theorem test_lda_abx_V1_6 :
    shows (step (start 0x0600 0x00 0x01 0x00 0xFF 0x30 [(0x0600, 0xBD), (0x0601, 0xFF), (0x0602, 0xFF), (0x0000, 0x66)]))
      [0x0603, 0x66, 0x01, 0x00, 0xFF, 0x30]
      [.read 0x0600 0xBD, .read 0x0601 0xFF, .read 0x0602 0xFF, .read 0x0000 0x66] = true := by decide

/-- V1.7 (R130, R109) -/
theorem test_lda_aby_V1_7 :
    shows (step (start 0x0600 0x00 0x00 0x20 0xFF 0x30 [(0x0600, 0xB9), (0x0601, 0xF0), (0x0602, 0x12), (0x1310, 0x77)]))
      [0x0603, 0x77, 0x00, 0x20, 0xFF, 0x30]
      [.read 0x0600 0xB9, .read 0x0601 0xF0, .read 0x0602 0x12, .read 0x1310 0x77] = true := by decide

/-- V1.8 (R130, R111) -/
theorem test_lda_izx_V1_8 :
    shows (step (start 0x0600 0x00 0x01 0x00 0xFF 0x30 [(0x0600, 0xA1), (0x0601, 0xFE), (0x0000, 0x12), (0x00FF, 0x34), (0x0100, 0x99), (0x1234, 0x88), (0x9934, 0xEE)]))
      [0x0602, 0x88, 0x01, 0x00, 0xFF, 0xB0]
      [.read 0x0600 0xA1, .read 0x0601 0xFE, .read 0x00FF 0x34, .read 0x0000 0x12, .read 0x1234 0x88] = true := by decide

/-- V1.9 (R130, R111) -/
theorem test_lda_izx_V1_9 :
    shows (step (start 0x0600 0x00 0xF5 0x00 0xFF 0x30 [(0x0600, 0xA1), (0x0601, 0x10), (0x0005, 0x00), (0x0006, 0x03), (0x0300, 0x5A)]))
      [0x0602, 0x5A, 0xF5, 0x00, 0xFF, 0x30]
      [.read 0x0600 0xA1, .read 0x0601 0x10, .read 0x0005 0x00, .read 0x0006 0x03, .read 0x0300 0x5A] = true := by decide

/-- V1.10 (R130, R112) -/
theorem test_lda_izy_V1_10 :
    shows (step (start 0x0600 0x00 0x00 0x10 0xFF 0x30 [(0x0600, 0xB1), (0x0601, 0xFF), (0x0000, 0x12), (0x00FF, 0xF8), (0x0100, 0x99), (0x1308, 0x99)]))
      [0x0602, 0x99, 0x00, 0x10, 0xFF, 0xB0]
      [.read 0x0600 0xB1, .read 0x0601 0xFF, .read 0x00FF 0xF8, .read 0x0000 0x12, .read 0x1308 0x99] = true := by decide

/-- V1.11 (R130, R112) -/
theorem test_lda_izy_V1_11 :
    shows (step (start 0x0600 0x00 0x00 0x01 0xFF 0x30 [(0x0600, 0xB1), (0x0601, 0x20), (0x0000, 0xA5), (0x0020, 0xFF), (0x0021, 0xFF)]))
      [0x0602, 0xA5, 0x00, 0x01, 0xFF, 0xB0]
      [.read 0x0600 0xB1, .read 0x0601 0x20, .read 0x0020 0xFF, .read 0x0021 0xFF, .read 0x0000 0xA5] = true := by decide

/-- V1.12 (R200, R110) -/
theorem test_jmp_ind_V1_12 :
    shows (step (start 0x0600 0x00 0x00 0x00 0xFF 0x30 [(0x0600, 0x6C), (0x0601, 0xFF), (0x0602, 0x30), (0x3000, 0x12), (0x30FF, 0x40), (0x3100, 0x99)]))
      [0x1240, 0x00, 0x00, 0x00, 0xFF, 0x30]
      [.read 0x0600 0x6C, .read 0x0601 0xFF, .read 0x0602 0x30, .read 0x30FF 0x40, .read 0x3000 0x12] = true := by decide

/-- V1.13 (R200, R110) -/
theorem test_jmp_ind_V1_13 :
    shows (step (start 0x0600 0x00 0x00 0x00 0xFF 0x30 [(0x0600, 0x6C), (0x0601, 0x00), (0x0602, 0x30), (0x3000, 0x78), (0x3001, 0x56)]))
      [0x5678, 0x00, 0x00, 0x00, 0xFF, 0x30]
      [.read 0x0600 0x6C, .read 0x0601 0x00, .read 0x0602 0x30, .read 0x3000 0x78, .read 0x3001 0x56] = true := by decide

/-- V1.14 (R130, R103) -/
theorem test_lda_imm_V1_14 :
    shows (step (start 0xFFFF 0x00 0x00 0x00 0xFF 0x30 [(0xFFFF, 0xA9), (0x0000, 0x00), (0x0000, 0x7F)]))
      [0x0001, 0x00, 0x00, 0x00, 0xFF, 0x32]
      [.read 0xFFFF 0xA9, .read 0x0000 0x00] = true := by decide

/-- V1.15 (R130, R107) -/
theorem test_lda_abs_V1_15 :
    shows (step (start 0xFFFE 0x00 0x00 0x00 0xFF 0x30 [(0xFFFE, 0xAD), (0xFFFF, 0x34), (0x0000, 0x12), (0x0000, 0x34), (0x0001, 0x12), (0x1234, 0x80)]))
      [0x0001, 0x80, 0x00, 0x00, 0xFF, 0xB0]
      [.read 0xFFFE 0xAD, .read 0xFFFF 0x34, .read 0x0000 0x12, .read 0x1234 0x80] = true := by decide

/-- V1.16 (R180, R108) -/
theorem test_inc_abx_V1_16 :
    shows (step (start 0x0600 0x00 0x01 0x00 0xFF 0x30 [(0x0600, 0xFE), (0x0601, 0xFF), (0x0602, 0x02), (0x0300, 0xFF)]))
      [0x0603, 0x00, 0x01, 0x00, 0xFF, 0x32]
      [.read 0x0600 0xFE, .read 0x0601 0xFF, .read 0x0602 0x02, .read 0x0300 0xFF, .write 0x0300 0x00] = true := by decide

/-- V1.17 (R186, R108) -/
theorem test_asl_abx_V1_17 :
    shows (step (start 0x0600 0x00 0x00 0x00 0xFF 0x30 [(0x0600, 0x1E), (0x0601, 0x00), (0x0602, 0x03), (0x0300, 0xC0)]))
      [0x0603, 0x00, 0x00, 0x00, 0xFF, 0xB1]
      [.read 0x0600 0x1E, .read 0x0601 0x00, .read 0x0602 0x03, .read 0x0300 0xC0, .write 0x0300 0x80] = true := by decide

/-- V1.18 (R133, R112) -/
theorem test_sta_izy_V1_18 :
    shows (step (start 0x0600 0x77 0x00 0xFF 0xFF 0x30 [(0x0600, 0x91), (0x0601, 0x20), (0x0020, 0x01), (0x0021, 0x03)]))
      [0x0602, 0x77, 0x00, 0xFF, 0xFF, 0x30]
      [.read 0x0600 0x91, .read 0x0601 0x20, .read 0x0020 0x01, .read 0x0021 0x03, .write 0x0400 0x77] = true := by decide

/-- V1.19 (R133, R111) -/
theorem test_sta_izx_V1_19 :
    shows (step (start 0x0600 0x78 0xE0 0x00 0xFF 0x30 [(0x0600, 0x81), (0x0601, 0x20), (0x0000, 0xCD), (0x0001, 0xAB)]))
      [0x0602, 0x78, 0xE0, 0x00, 0xFF, 0x30]
      [.read 0x0600 0x81, .read 0x0601 0x20, .read 0x0000 0xCD, .read 0x0001 0xAB, .write 0xABCD 0x78] = true := by decide

/-- V1.20 (R134, R106) -/
theorem test_stx_zpy_V1_20 :
    shows (step (start 0x0600 0x00 0x3C 0x01 0xFF 0x30 [(0x0600, 0x96), (0x0601, 0xFF)]))
      [0x0602, 0x00, 0x3C, 0x01, 0xFF, 0x30]
      [.read 0x0600 0x96, .read 0x0601 0xFF, .write 0x0000 0x3C] = true := by decide

/-- V2.3 (R130, R103) -/
theorem test_lda_imm_V2_3 :
    shows (step (start 0x0600 0x00 0x00 0x00 0xFF 0x30 [(0x0600, 0xA9), (0x0601, 0x80)]))
      [0x0602, 0x80, 0x00, 0x00, 0xFF, 0xB0]
      [.read 0x0600 0xA9, .read 0x0601 0x80] = true := by decide

/-- V2.4 (R131, R103) -/
theorem test_ldx_imm_V2_4 :
    shows (step (start 0x0600 0x00 0x00 0x00 0xFF 0x30 [(0x0600, 0xA2), (0x0601, 0xFF)]))
      [0x0602, 0x00, 0xFF, 0x00, 0xFF, 0xB0]
      [.read 0x0600 0xA2, .read 0x0601 0xFF] = true := by decide

/-- V2.5 (R132, R103) -/
theorem test_ldy_imm_V2_5 :
    shows (step (start 0x0600 0x00 0x00 0x07 0xFF 0x30 [(0x0600, 0xA0), (0x0601, 0x00)]))
      [0x0602, 0x00, 0x00, 0x00, 0xFF, 0x32]
      [.read 0x0600 0xA0, .read 0x0601 0x00] = true := by decide

/-- V2.6 (R133, R107) -/
theorem test_sta_abs_V2_6 :
    shows (step (start 0x0600 0x05 0x00 0x00 0xFF 0x30 [(0x0600, 0x8D), (0x0601, 0x00), (0x0602, 0x02)]))
      [0x0603, 0x05, 0x00, 0x00, 0xFF, 0x30]
      [.read 0x0600 0x8D, .read 0x0601 0x00, .read 0x0602 0x02, .write 0x0200 0x05] = true := by decide

/-- V2.7 (R134, R104) -/
theorem test_stx_zp_V2_7 :
    shows (step (start 0x0600 0x00 0x07 0x00 0xFF 0x30 [(0x0600, 0x86), (0x0601, 0x10)]))
      [0x0602, 0x00, 0x07, 0x00, 0xFF, 0x30]
      [.read 0x0600 0x86, .read 0x0601 0x10, .write 0x0010 0x07] = true := by decide

/-- V2.8 (R135, R107) -/
theorem test_sty_abs_V2_8 :
    shows (step (start 0x0600 0x00 0x00 0x80 0xFF 0x30 [(0x0600, 0x8C), (0x0601, 0x34), (0x0602, 0x12)]))
      [0x0603, 0x00, 0x00, 0x80, 0xFF, 0x30]
      [.read 0x0600 0x8C, .read 0x0601 0x34, .read 0x0602 0x12, .write 0x1234 0x80] = true := by decide

/-- V2.9 (R133, R104) -/
theorem test_sta_zp_V2_9 :
    shows (step (start 0x0600 0x00 0x00 0x00 0xFF 0xA0 [(0x0600, 0x85), (0x0601, 0x00)]))
      [0x0602, 0x00, 0x00, 0x00, 0xFF, 0xA0]
      [.read 0x0600 0x85, .read 0x0601 0x00, .write 0x0000 0x00] = true := by decide

/-- V2.10 (R136, R102) -/
theorem test_tax_V2_10 :
    shows (step (start 0x0600 0x00 0x05 0x00 0xFF 0x30 [(0x0600, 0xAA)]))
      [0x0601, 0x00, 0x00, 0x00, 0xFF, 0x32]
      [.read 0x0600 0xAA] = true := by decide

/-- V2.11 (R137, R102) -/
theorem test_tay_V2_11 :
    shows (step (start 0x0600 0x90 0x00 0x00 0xFF 0x30 [(0x0600, 0xA8)]))
      [0x0601, 0x90, 0x00, 0x90, 0xFF, 0xB0]
      [.read 0x0600 0xA8] = true := by decide

/-- V2.12 (R138, R102) -/
theorem test_txa_V2_12 :
    shows (step (start 0x0600 0x00 0x7F 0x00 0xFF 0x30 [(0x0600, 0x8A)]))
      [0x0601, 0x7F, 0x7F, 0x00, 0xFF, 0x30]
      [.read 0x0600 0x8A] = true := by decide

/-- V2.13 (R139, R102) -/
theorem test_tya_V2_13 :
    shows (step (start 0x0600 0x00 0x00 0xFF 0xFF 0x30 [(0x0600, 0x98)]))
      [0x0601, 0xFF, 0x00, 0xFF, 0xFF, 0xB0]
      [.read 0x0600 0x98] = true := by decide

/-- V2.14 (R140, R102) -/
theorem test_tsx_V2_14 :
    shows (step (start 0x0600 0x00 0x00 0x00 0xFC 0x30 [(0x0600, 0xBA)]))
      [0x0601, 0x00, 0xFC, 0x00, 0xFC, 0xB0]
      [.read 0x0600 0xBA] = true := by decide

/-- V2.15 (R140, R102) -/
theorem test_tsx_V2_15 :
    shows (step (start 0x0600 0x00 0x00 0x00 0xFF 0x30 [(0x0600, 0xBA)]))
      [0x0601, 0x00, 0xFF, 0x00, 0xFF, 0xB0]
      [.read 0x0600 0xBA] = true := by decide

/-- V2.16 (R141, R102) -/
theorem test_txs_V2_16 :
    shows (step (start 0x0600 0x00 0x80 0x00 0xFF 0x30 [(0x0600, 0x9A)]))
      [0x0601, 0x00, 0x80, 0x00, 0x80, 0x30]
      [.read 0x0600 0x9A] = true := by decide

/-- V2.17 (R141, R102) -/
theorem test_txs_V2_17 :
    shows (step (start 0x0600 0x00 0x00 0x00 0x55 0x30 [(0x0600, 0x9A)]))
      [0x0601, 0x00, 0x00, 0x00, 0x00, 0x30]
      [.read 0x0600 0x9A] = true := by decide

/-- V3.1 (R150, R102) -/
theorem test_pha_V3_1 :
    shows (step (start 0x0600 0x42 0x00 0x00 0xFF 0x30 [(0x0600, 0x48)]))
      [0x0601, 0x42, 0x00, 0x00, 0xFE, 0x30]
      [.read 0x0600 0x48, .write 0x01FF 0x42] = true := by decide

/-- V3.2 (R150, R102) -/
theorem test_pha_V3_2 :
    shows (step (start 0x0600 0x42 0x00 0x00 0x00 0x30 [(0x0600, 0x48)]))
      [0x0601, 0x42, 0x00, 0x00, 0xFF, 0x30]
      [.read 0x0600 0x48, .write 0x0100 0x42] = true := by decide

/-- V3.3 (R151, R102) -/
theorem test_php_V3_3 :
    shows (step (start 0x0600 0x00 0x00 0x00 0xFF 0xA5 [(0x0600, 0x08)]))
      [0x0601, 0x00, 0x00, 0x00, 0xFE, 0xA5]
      [.read 0x0600 0x08, .write 0x01FF 0xB5] = true := by decide

/-- V3.5 (R151, R102) -/
theorem test_php_V3_5 :
    shows (step (start 0x0600 0x00 0x00 0x00 0xFF 0x20 [(0x0600, 0x08)]))
      [0x0601, 0x00, 0x00, 0x00, 0xFE, 0x20]
      [.read 0x0600 0x08, .write 0x01FF 0x30] = true := by decide

/-- V3.7 (R152, R102) -/
theorem test_pla_V3_7 :
    shows (step (start 0x0600 0x00 0x00 0x00 0xFF 0x30 [(0x0600, 0x68), (0x0100, 0x77)]))
      [0x0601, 0x77, 0x00, 0x00, 0x00, 0x30]
      [.read 0x0600 0x68, .read 0x0100 0x77] = true := by decide

/-- V3.8 (R152, R102) -/
theorem test_pla_V3_8 :
    shows (step (start 0x0600 0x00 0x00 0x00 0xFE 0x30 [(0x0600, 0x68), (0x01FF, 0x80)]))
      [0x0601, 0x80, 0x00, 0x00, 0xFF, 0xB0]
      [.read 0x0600 0x68, .read 0x01FF 0x80] = true := by decide

/-- V3.9 (R153, R102) -/
theorem test_plp_V3_9 :
    shows (step (start 0x0600 0x00 0x00 0x00 0xFE 0x30 [(0x0600, 0x28), (0x01FF, 0xFF)]))
      [0x0601, 0x00, 0x00, 0x00, 0xFF, 0xEF]
      [.read 0x0600 0x28, .read 0x01FF 0xFF] = true := by decide

/-- V3.10 (R153, R102) -/
theorem test_plp_V3_10 :
    shows (step (start 0x0600 0x00 0x00 0x00 0xFE 0x30 [(0x0600, 0x28), (0x01FF, 0x00)]))
      [0x0601, 0x00, 0x00, 0x00, 0xFF, 0x20]
      [.read 0x0600 0x28, .read 0x01FF 0x00] = true := by decide

/-- V4.1 (R160, R103) -/
theorem test_and_imm_V4_1 :
    shows (step (start 0x0600 0xF0 0x00 0x00 0xFF 0x30 [(0x0600, 0x29), (0x0601, 0x3C)]))
      [0x0602, 0x30, 0x00, 0x00, 0xFF, 0x30]
      [.read 0x0600 0x29, .read 0x0601 0x3C] = true := by decide

/-- V4.2 (R160, R103) -/
theorem test_and_imm_V4_2 :
    shows (step (start 0x0600 0xFF 0x00 0x00 0xFF 0x30 [(0x0600, 0x29), (0x0601, 0x00)]))
      [0x0602, 0x00, 0x00, 0x00, 0xFF, 0x32]
      [.read 0x0600 0x29, .read 0x0601 0x00] = true := by decide

/-- V4.3 (R161, R103) -/
theorem test_ora_imm_V4_3 :
    shows (step (start 0x0600 0x01 0x00 0x00 0xFF 0x30 [(0x0600, 0x09), (0x0601, 0x80)]))
      [0x0602, 0x81, 0x00, 0x00, 0xFF, 0xB0]
      [.read 0x0600 0x09, .read 0x0601 0x80] = true := by decide

/-- V4.4 (R161, R103) -/
theorem test_ora_imm_V4_4 :
    shows (step (start 0x0600 0x00 0x00 0x00 0xFF 0x30 [(0x0600, 0x09), (0x0601, 0x00)]))
      [0x0602, 0x00, 0x00, 0x00, 0xFF, 0x32]
      [.read 0x0600 0x09, .read 0x0601 0x00] = true := by decide

/-- V4.5 (R162, R103) -/
theorem test_eor_imm_V4_5 :
    shows (step (start 0x0600 0xAA 0x00 0x00 0xFF 0x30 [(0x0600, 0x49), (0x0601, 0xFF)]))
      [0x0602, 0x55, 0x00, 0x00, 0xFF, 0x30]
      [.read 0x0600 0x49, .read 0x0601 0xFF] = true := by decide

/-- V4.6 (R162, R103) -/
theorem test_eor_imm_V4_6 :
    shows (step (start 0x0600 0xAA 0x00 0x00 0xFF 0x30 [(0x0600, 0x49), (0x0601, 0xAA)]))
      [0x0602, 0x00, 0x00, 0x00, 0xFF, 0x32]
      [.read 0x0600 0x49, .read 0x0601 0xAA] = true := by decide

/-- V4.7 (R163, R104) -/
theorem test_bit_zp_V4_7 :
    shows (step (start 0x0600 0x0F 0x00 0x00 0xFF 0x30 [(0x0600, 0x24), (0x0601, 0x10), (0x0010, 0xC0)]))
      [0x0602, 0x0F, 0x00, 0x00, 0xFF, 0xF2]
      [.read 0x0600 0x24, .read 0x0601 0x10, .read 0x0010 0xC0] = true := by decide

/-- V4.8 (R163, R104) -/
theorem test_bit_zp_V4_8 :
    shows (step (start 0x0600 0xFF 0x00 0x00 0xFF 0xE2 [(0x0600, 0x24), (0x0601, 0x10), (0x0010, 0x01)]))
      [0x0602, 0xFF, 0x00, 0x00, 0xFF, 0x20]
      [.read 0x0600 0x24, .read 0x0601 0x10, .read 0x0010 0x01] = true := by decide

/-- V4.9 (R163, R107) -/
theorem test_bit_abs_V4_9 :
    shows (step (start 0x0600 0x40 0x00 0x00 0xFF 0x30 [(0x0600, 0x2C), (0x0601, 0x00), (0x0602, 0x03), (0x0300, 0x40)]))
      [0x0603, 0x40, 0x00, 0x00, 0xFF, 0x70]
      [.read 0x0600 0x2C, .read 0x0601 0x00, .read 0x0602 0x03, .read 0x0300 0x40] = true := by decide

/-- V5.5 (R164, R103) -/
theorem test_adc_imm_V5_5 :
    shows (step (start 0x0600 0x7F 0x00 0x00 0xFF 0x31 [(0x0600, 0x69), (0x0601, 0x00)]))
      [0x0602, 0x80, 0x00, 0x00, 0xFF, 0xF0]
      [.read 0x0600 0x69, .read 0x0601 0x00] = true := by decide

/-- V5.7 (R164, R103) -/
theorem test_adc_imm_V5_7 :
    shows (step (start 0x0600 0x01 0x00 0x00 0xFF 0x38 [(0x0600, 0x69), (0x0601, 0x99)]))
      [0x0602, 0x9A, 0x00, 0x00, 0xFF, 0xB8]
      [.read 0x0600 0x69, .read 0x0601 0x99] = true := by decide

/-- V5.13 (R165, R103) -/
theorem test_sbc_imm_V5_13 :
    shows (step (start 0x0600 0x50 0x00 0x00 0xFF 0x31 [(0x0600, 0xE9), (0x0601, 0xB0)]))
      [0x0602, 0xA0, 0x00, 0x00, 0xFF, 0xF0]
      [.read 0x0600 0xE9, .read 0x0601 0xB0] = true := by decide

/-- V5.16 (R165, R103) -/
theorem test_sbc_imm_V5_16 :
    shows (step (start 0x0600 0x10 0x00 0x00 0xFF 0x39 [(0x0600, 0xE9), (0x0601, 0x01)]))
      [0x0602, 0x0F, 0x00, 0x00, 0xFF, 0x39]
      [.read 0x0600 0xE9, .read 0x0601 0x01] = true := by decide

/-- V6.2 (R166, R103) -/
theorem test_cmp_imm_V6_2 :
    shows (step (start 0x0600 0x40 0x00 0x00 0xFF 0x30 [(0x0600, 0xC9), (0x0601, 0x41)]))
      [0x0602, 0x40, 0x00, 0x00, 0xFF, 0xB0]
      [.read 0x0600 0xC9, .read 0x0601 0x41] = true := by decide

/-- V6.5 (R166, R103) -/
theorem test_cmp_imm_V6_5 :
    shows (step (start 0x0600 0x00 0x00 0x00 0xFF 0x70 [(0x0600, 0xC9), (0x0601, 0x00)]))
      [0x0602, 0x00, 0x00, 0x00, 0xFF, 0x73]
      [.read 0x0600 0xC9, .read 0x0601 0x00] = true := by decide

/-- V6.6 (R167, R103) -/
theorem test_cpx_imm_V6_6 :
    shows (step (start 0x0600 0x00 0x05 0x00 0xFF 0x30 [(0x0600, 0xE0), (0x0601, 0x06)]))
      [0x0602, 0x00, 0x05, 0x00, 0xFF, 0xB0]
      [.read 0x0600 0xE0, .read 0x0601 0x06] = true := by decide

/-- V6.7 (R168, R103) -/
theorem test_cpy_imm_V6_7 :
    shows (step (start 0x0600 0x00 0x00 0xFF 0xFF 0x30 [(0x0600, 0xC0), (0x0601, 0x00)]))
      [0x0602, 0x00, 0x00, 0xFF, 0xFF, 0xB1]
      [.read 0x0600 0xC0, .read 0x0601 0x00] = true := by decide

/-- V6.8 (R167, R107) -/
theorem test_cpx_abs_V6_8 :
    shows (step (start 0x0600 0x00 0x7F 0x00 0xFF 0x30 [(0x0600, 0xEC), (0x0601, 0x00), (0x0602, 0x03), (0x0300, 0x80)]))
      [0x0603, 0x00, 0x7F, 0x00, 0xFF, 0xB0]
      [.read 0x0600 0xEC, .read 0x0601 0x00, .read 0x0602 0x03, .read 0x0300 0x80] = true := by decide

/-- V7.1 (R180, R104) -/
theorem test_inc_zp_V7_1 :
    shows (step (start 0x0600 0x00 0x00 0x00 0xFF 0x30 [(0x0600, 0xE6), (0x0601, 0x10), (0x0010, 0xFF)]))
      [0x0602, 0x00, 0x00, 0x00, 0xFF, 0x32]
      [.read 0x0600 0xE6, .read 0x0601 0x10, .read 0x0010 0xFF, .write 0x0010 0x00] = true := by decide

/-- V7.2 (R180, R104) -/
theorem test_inc_zp_V7_2 :
    shows (step (start 0x0600 0x00 0x00 0x00 0xFF 0x71 [(0x0600, 0xE6), (0x0601, 0x10), (0x0010, 0x7F)]))
      [0x0602, 0x00, 0x00, 0x00, 0xFF, 0xF1]
      [.read 0x0600 0xE6, .read 0x0601 0x10, .read 0x0010 0x7F, .write 0x0010 0x80] = true := by decide

/-- V7.3 (R181, R107) -/
theorem test_dec_abs_V7_3 :
    shows (step (start 0x0600 0x00 0x00 0x00 0xFF 0x30 [(0x0600, 0xCE), (0x0601, 0x00), (0x0602, 0x02), (0x0200, 0x01)]))
      [0x0603, 0x00, 0x00, 0x00, 0xFF, 0x32]
      [.read 0x0600 0xCE, .read 0x0601 0x00, .read 0x0602 0x02, .read 0x0200 0x01, .write 0x0200 0x00] = true := by decide

/-- V7.4 (R181, R104) -/
theorem test_dec_zp_V7_4 :
    shows (step (start 0x0600 0x00 0x00 0x00 0xFF 0x30 [(0x0600, 0xC6), (0x0601, 0x10), (0x0010, 0x00)]))
      [0x0602, 0x00, 0x00, 0x00, 0xFF, 0xB0]
      [.read 0x0600 0xC6, .read 0x0601 0x10, .read 0x0010 0x00, .write 0x0010 0xFF] = true := by decide

/-- V7.5 (R182, R102) -/
theorem test_inx_V7_5 :
    shows (step (start 0x0600 0x00 0x7F 0x00 0xFF 0x30 [(0x0600, 0xE8)]))
      [0x0601, 0x00, 0x80, 0x00, 0xFF, 0xB0]
      [.read 0x0600 0xE8] = true := by decide

/-- V7.6 (R182, R102) -/
theorem test_inx_V7_6 :
    shows (step (start 0x0600 0x00 0xFF 0x00 0xFF 0x30 [(0x0600, 0xE8)]))
      [0x0601, 0x00, 0x00, 0x00, 0xFF, 0x32]
      [.read 0x0600 0xE8] = true := by decide

/-- V7.7 (R183, R102) -/
theorem test_dex_V7_7 :
    shows (step (start 0x0600 0x00 0x01 0x00 0xFF 0x30 [(0x0600, 0xCA)]))
      [0x0601, 0x00, 0x00, 0x00, 0xFF, 0x32]
      [.read 0x0600 0xCA] = true := by decide

/-- V7.8 (R183, R102) -/
theorem test_dex_V7_8 :
    shows (step (start 0x0600 0x00 0x00 0x00 0xFF 0x30 [(0x0600, 0xCA)]))
      [0x0601, 0x00, 0xFF, 0x00, 0xFF, 0xB0]
      [.read 0x0600 0xCA] = true := by decide

/-- V7.9 (R184, R102) -/
theorem test_iny_V7_9 :
    shows (step (start 0x0600 0x00 0x00 0x00 0xFF 0x30 [(0x0600, 0xC8)]))
      [0x0601, 0x00, 0x00, 0x01, 0xFF, 0x30]
      [.read 0x0600 0xC8] = true := by decide

/-- V7.10 (R185, R102) -/
theorem test_dey_V7_10 :
    shows (step (start 0x0600 0x00 0x00 0x80 0xFF 0x30 [(0x0600, 0x88)]))
      [0x0601, 0x00, 0x00, 0x7F, 0xFF, 0x30]
      [.read 0x0600 0x88] = true := by decide

/-- V8.2 (R186, R102) -/
theorem test_asl_a_V8_2 :
    shows (step (start 0x0600 0x80 0x00 0x00 0xFF 0x30 [(0x0600, 0x0A)]))
      [0x0601, 0x00, 0x00, 0x00, 0xFF, 0x33]
      [.read 0x0600 0x0A] = true := by decide

/-- V8.3 (R186, R102) -/
theorem test_asl_a_V8_3 :
    shows (step (start 0x0600 0x40 0x00 0x00 0xFF 0x31 [(0x0600, 0x0A)]))
      [0x0601, 0x80, 0x00, 0x00, 0xFF, 0xB0]
      [.read 0x0600 0x0A] = true := by decide

/-- V8.4 (R187, R102) -/
theorem test_lsr_a_V8_4 :
    shows (step (start 0x0600 0x01 0x00 0x00 0xFF 0x30 [(0x0600, 0x4A)]))
      [0x0601, 0x00, 0x00, 0x00, 0xFF, 0x33]
      [.read 0x0600 0x4A] = true := by decide

/-- V8.5 (R187, R102) -/
theorem test_lsr_a_V8_5 :
    shows (step (start 0x0600 0x80 0x00 0x00 0xFF 0xB1 [(0x0600, 0x4A)]))
      [0x0601, 0x40, 0x00, 0x00, 0xFF, 0x30]
      [.read 0x0600 0x4A] = true := by decide

/-- V8.6 (R187, R104) -/
theorem test_lsr_zp_V8_6 :
    shows (step (start 0x0600 0x00 0x00 0x00 0xFF 0x30 [(0x0600, 0x46), (0x0601, 0x10), (0x0010, 0x03)]))
      [0x0602, 0x00, 0x00, 0x00, 0xFF, 0x31]
      [.read 0x0600 0x46, .read 0x0601 0x10, .read 0x0010 0x03, .write 0x0010 0x01] = true := by decide

/-- V8.7 (R188, R102) -/
theorem test_rol_a_V8_7 :
    shows (step (start 0x0600 0x40 0x00 0x00 0xFF 0x31 [(0x0600, 0x2A)]))
      [0x0601, 0x81, 0x00, 0x00, 0xFF, 0xB0]
      [.read 0x0600 0x2A] = true := by decide

/-- V8.8 (R188, R102) -/
theorem test_rol_a_V8_8 :
    shows (step (start 0x0600 0x80 0x00 0x00 0xFF 0x30 [(0x0600, 0x2A)]))
      [0x0601, 0x00, 0x00, 0x00, 0xFF, 0x33]
      [.read 0x0600 0x2A] = true := by decide

/-- V8.10 (R189, R102) -/
theorem test_ror_a_V8_10 :
    shows (step (start 0x0600 0x02 0x00 0x00 0xFF 0x31 [(0x0600, 0x6A)]))
      [0x0601, 0x81, 0x00, 0x00, 0xFF, 0xB0]
      [.read 0x0600 0x6A] = true := by decide

/-- V8.11 (R189, R102) -/
theorem test_ror_a_V8_11 :
    shows (step (start 0x0600 0x01 0x00 0x00 0xFF 0x30 [(0x0600, 0x6A)]))
      [0x0601, 0x00, 0x00, 0x00, 0xFF, 0x33]
      [.read 0x0600 0x6A] = true := by decide

/-- V8.13 (R188, R107) -/
theorem test_rol_abs_V8_13 :
    shows (step (start 0x0600 0x00 0x00 0x00 0xFF 0x31 [(0x0600, 0x2E), (0x0601, 0x00), (0x0602, 0x03), (0x0300, 0xFF)]))
      [0x0603, 0x00, 0x00, 0x00, 0xFF, 0xB1]
      [.read 0x0600 0x2E, .read 0x0601 0x00, .read 0x0602 0x03, .read 0x0300 0xFF, .write 0x0300 0xFF] = true := by decide

/-- V8.14 (R189, R105) -/
theorem test_ror_zpx_V8_14 :
    shows (step (start 0x0600 0x00 0xF0 0x00 0xFF 0x31 [(0x0600, 0x76), (0x0601, 0x10), (0x0000, 0x01)]))
      [0x0602, 0x00, 0xF0, 0x00, 0xFF, 0xB1]
      [.read 0x0600 0x76, .read 0x0601 0x10, .read 0x0000 0x01, .write 0x0000 0x80] = true := by decide

/-- V9.1 (R200, R107) -/
theorem test_jmp_abs_V9_1 :
    shows (step (start 0x1000 0x00 0x00 0x00 0xFF 0x30 [(0x1000, 0x4C), (0x1001, 0x00), (0x1002, 0x06)]))
      [0x0600, 0x00, 0x00, 0x00, 0xFF, 0x30]
      [.read 0x1000 0x4C, .read 0x1001 0x00, .read 0x1002 0x06] = true := by decide

/-- V9.2 (R200, R107) -/
theorem test_jmp_abs_V9_2 :
    shows (step (start 0x0600 0x00 0x00 0x00 0xFF 0x30 [(0x0600, 0x4C), (0x0601, 0x00), (0x0602, 0x06)]))
      [0x0600, 0x00, 0x00, 0x00, 0xFF, 0x30]
      [.read 0x0600 0x4C, .read 0x0601 0x00, .read 0x0602 0x06] = true := by decide

/-- V9.4 (R203, R107) -/
theorem test_jsr_V9_4 :
    shows (step (start 0xFFFE 0x00 0x00 0x00 0xFF 0x30 [(0xFFFE, 0x20), (0xFFFF, 0x00), (0x0000, 0x80), (0x0000, 0x80)]))
      [0x8000, 0x00, 0x00, 0x00, 0xFD, 0x30]
      [.read 0xFFFE 0x20, .read 0xFFFF 0x00, .read 0x0000 0x80, .write 0x01FF 0x00, .write 0x01FE 0x00] = true := by decide

/-- V9.5 (R203, R107) -/
theorem test_jsr_V9_5 :
    shows (step (start 0x0600 0x00 0x00 0x00 0x00 0x30 [(0x0600, 0x20), (0x0601, 0x00), (0x0602, 0x03)]))
      [0x0300, 0x00, 0x00, 0x00, 0xFE, 0x30]
      [.read 0x0600 0x20, .read 0x0601 0x00, .read 0x0602 0x03, .write 0x0100 0x06, .write 0x01FF 0x02] = true := by decide

/-- V9.7 (R204, R102) -/
theorem test_rts_V9_7 :
    shows (step (start 0x0600 0x00 0x00 0x00 0xFD 0x30 [(0x0600, 0x60), (0x01FE, 0xFF), (0x01FF, 0xFF)]))
      [0x0000, 0x00, 0x00, 0x00, 0xFF, 0x30]
      [.read 0x0600 0x60, .read 0x01FE 0xFF, .read 0x01FF 0xFF] = true := by decide

/-- V9.8 (R204, R102) -/
theorem test_rts_V9_8 :
    shows (step (start 0x0600 0x00 0x00 0x00 0xFF 0x30 [(0x0600, 0x60), (0x0100, 0x10), (0x0101, 0x20)]))
      [0x2011, 0x00, 0x00, 0x00, 0x01, 0x30]
      [.read 0x0600 0x60, .read 0x0100 0x10, .read 0x0101 0x20] = true := by decide

/-- V9.9 (R206, R113) -/
theorem test_bcc_V9_9 :
    shows (step (start 0x0600 0x00 0x00 0x00 0xFF 0x30 [(0x0600, 0x90), (0x0601, 0x04)]))
      [0x0606, 0x00, 0x00, 0x00, 0xFF, 0x30]
      [.read 0x0600 0x90, .read 0x0601 0x04] = true := by decide

/-- V9.10 (R206, R113) -/
theorem test_bcc_V9_10 :
    shows (step (start 0x0600 0x00 0x00 0x00 0xFF 0x31 [(0x0600, 0x90), (0x0601, 0x04)]))
      [0x0602, 0x00, 0x00, 0x00, 0xFF, 0x31]
      [.read 0x0600 0x90, .read 0x0601 0x04] = true := by decide

/-- V9.11 (R207, R113) -/
theorem test_bcs_V9_11 :
    shows (step (start 0x0600 0x00 0x00 0x00 0xFF 0x31 [(0x0600, 0xB0), (0x0601, 0x04)]))
      [0x0606, 0x00, 0x00, 0x00, 0xFF, 0x31]
      [.read 0x0600 0xB0, .read 0x0601 0x04] = true := by decide

/-- V9.12 (R207, R113) -/
theorem test_bcs_V9_12 :
    shows (step (start 0x0600 0x00 0x00 0x00 0xFF 0x30 [(0x0600, 0xB0), (0x0601, 0x04)]))
      [0x0602, 0x00, 0x00, 0x00, 0xFF, 0x30]
      [.read 0x0600 0xB0, .read 0x0601 0x04] = true := by decide

/-- V9.13 (R208, R113) -/
theorem test_bne_V9_13 :
    shows (step (start 0x060A 0x00 0x00 0x00 0xFF 0x30 [(0x060A, 0xD0), (0x060B, 0xF9)]))
      [0x0605, 0x00, 0x00, 0x00, 0xFF, 0x30]
      [.read 0x060A 0xD0, .read 0x060B 0xF9] = true := by decide

/-- V9.14 (R208, R113) -/
theorem test_bne_V9_14 :
    shows (step (start 0x060A 0x00 0x00 0x00 0xFF 0x32 [(0x060A, 0xD0), (0x060B, 0xF9)]))
      [0x060C, 0x00, 0x00, 0x00, 0xFF, 0x32]
      [.read 0x060A 0xD0, .read 0x060B 0xF9] = true := by decide

/-- V9.15 (R209, R113) -/
theorem test_beq_V9_15 :
    shows (step (start 0x0600 0x00 0x00 0x00 0xFF 0x32 [(0x0600, 0xF0), (0x0601, 0xFE)]))
      [0x0600, 0x00, 0x00, 0x00, 0xFF, 0x32]
      [.read 0x0600 0xF0, .read 0x0601 0xFE] = true := by decide

/-- V9.16 (R209, R113) -/
theorem test_beq_V9_16 :
    shows (step (start 0x0600 0x00 0x00 0x00 0xFF 0x30 [(0x0600, 0xF0), (0x0601, 0xFE)]))
      [0x0602, 0x00, 0x00, 0x00, 0xFF, 0x30]
      [.read 0x0600 0xF0, .read 0x0601 0xFE] = true := by decide

/-- V9.17 (R210, R113) -/
theorem test_bpl_V9_17 :
    shows (step (start 0x0600 0x00 0x00 0x00 0xFF 0x30 [(0x0600, 0x10), (0x0601, 0x7F)]))
      [0x0681, 0x00, 0x00, 0x00, 0xFF, 0x30]
      [.read 0x0600 0x10, .read 0x0601 0x7F] = true := by decide

/-- V9.18 (R210, R113) -/
theorem test_bpl_V9_18 :
    shows (step (start 0x0600 0x00 0x00 0x00 0xFF 0xB0 [(0x0600, 0x10), (0x0601, 0x7F)]))
      [0x0602, 0x00, 0x00, 0x00, 0xFF, 0xB0]
      [.read 0x0600 0x10, .read 0x0601 0x7F] = true := by decide

/-- V9.19 (R211, R113) -/
theorem test_bmi_V9_19 :
    shows (step (start 0x0600 0x00 0x00 0x00 0xFF 0xB0 [(0x0600, 0x30), (0x0601, 0x80)]))
      [0x0582, 0x00, 0x00, 0x00, 0xFF, 0xB0]
      [.read 0x0600 0x30, .read 0x0601 0x80] = true := by decide

/-- V9.20 (R211, R113) -/
theorem test_bmi_V9_20 :
    shows (step (start 0x0600 0x00 0x00 0x00 0xFF 0x30 [(0x0600, 0x30), (0x0601, 0x80)]))
      [0x0602, 0x00, 0x00, 0x00, 0xFF, 0x30]
      [.read 0x0600 0x30, .read 0x0601 0x80] = true := by decide

/-- V9.21 (R212, R113) -/
theorem test_bvc_V9_21 :
    shows (step (start 0xFFFD 0x00 0x00 0x00 0xFF 0x30 [(0xFFFD, 0x50), (0xFFFE, 0x02)]))
      [0x0001, 0x00, 0x00, 0x00, 0xFF, 0x30]
      [.read 0xFFFD 0x50, .read 0xFFFE 0x02] = true := by decide

/-- V9.22 (R212, R113) -/
theorem test_bvc_V9_22 :
    shows (step (start 0xFFFD 0x00 0x00 0x00 0xFF 0x70 [(0xFFFD, 0x50), (0xFFFE, 0x02)]))
      [0xFFFF, 0x00, 0x00, 0x00, 0xFF, 0x70]
      [.read 0xFFFD 0x50, .read 0xFFFE 0x02] = true := by decide

/-- V9.23 (R213, R113) -/
theorem test_bvs_V9_23 :
    shows (step (start 0x0000 0x00 0x00 0x00 0xFF 0x70 [(0x0000, 0x70), (0x0001, 0xFC)]))
      [0xFFFE, 0x00, 0x00, 0x00, 0xFF, 0x70]
      [.read 0x0000 0x70, .read 0x0001 0xFC] = true := by decide

/-- V9.24 (R213, R113) -/
theorem test_bvs_V9_24 :
    shows (step (start 0x0000 0x00 0x00 0x00 0xFF 0x30 [(0x0000, 0x70), (0x0001, 0xFC)]))
      [0x0002, 0x00, 0x00, 0x00, 0xFF, 0x30]
      [.read 0x0000 0x70, .read 0x0001 0xFC] = true := by decide

/-- V10.1 (R220, R102) -/
theorem test_clc_V10_1 :
    shows (step (start 0x0600 0x00 0x00 0x00 0xFF 0xFF [(0x0600, 0x18)]))
      [0x0601, 0x00, 0x00, 0x00, 0xFF, 0xFE]
      [.read 0x0600 0x18] = true := by decide

/-- V10.2 (R221, R102) -/
theorem test_cld_V10_2 :
    shows (step (start 0x0600 0x00 0x00 0x00 0xFF 0xFF [(0x0600, 0xD8)]))
      [0x0601, 0x00, 0x00, 0x00, 0xFF, 0xF7]
      [.read 0x0600 0xD8] = true := by decide

/-- V10.3 (R222, R102) -/
theorem test_cli_V10_3 :
    shows (step (start 0x0600 0x00 0x00 0x00 0xFF 0xFF [(0x0600, 0x58)]))
      [0x0601, 0x00, 0x00, 0x00, 0xFF, 0xFB]
      [.read 0x0600 0x58] = true := by decide

/-- V10.4 (R223, R102) -/
theorem test_clv_V10_4 :
    shows (step (start 0x0600 0x00 0x00 0x00 0xFF 0xFF [(0x0600, 0xB8)]))
      [0x0601, 0x00, 0x00, 0x00, 0xFF, 0xBF]
      [.read 0x0600 0xB8] = true := by decide

/-- V10.5 (R224, R102) -/
theorem test_sec_V10_5 :
    shows (step (start 0x0600 0x00 0x00 0x00 0xFF 0x20 [(0x0600, 0x38)]))
      [0x0601, 0x00, 0x00, 0x00, 0xFF, 0x21]
      [.read 0x0600 0x38] = true := by decide

/-- V10.6 (R225, R102) -/
theorem test_sed_V10_6 :
    shows (step (start 0x0600 0x00 0x00 0x00 0xFF 0x20 [(0x0600, 0xF8)]))
      [0x0601, 0x00, 0x00, 0x00, 0xFF, 0x28]
      [.read 0x0600 0xF8] = true := by decide

/-- V10.7 (R226, R102) -/
theorem test_sei_V10_7 :
    shows (step (start 0x0600 0x00 0x00 0x00 0xFF 0x20 [(0x0600, 0x78)]))
      [0x0601, 0x00, 0x00, 0x00, 0xFF, 0x24]
      [.read 0x0600 0x78] = true := by decide

/-- V10.8 (R228, R102) -/
theorem test_nop_V10_8 :
    shows (step (start 0x0600 0x00 0x00 0x00 0xFF 0xE3 [(0x0600, 0xEA)]))
      [0x0601, 0x00, 0x00, 0x00, 0xFF, 0xE3]
      [.read 0x0600 0xEA] = true := by decide

/-- V10.9 (R227, R102) -/
theorem test_brk_V10_9 :
    shows (step (start 0x0605 0x00 0x00 0x00 0xFF 0x30 [(0x0605, 0x00), (0xFFFE, 0x00), (0xFFFF, 0x90)]))
      [0x9000, 0x00, 0x00, 0x00, 0xFC, 0x34]
      [.read 0x0605 0x00, .write 0x01FF 0x06, .write 0x01FE 0x06, .write 0x01FD 0x30, .read 0xFFFE 0x00, .read 0xFFFF 0x90] = true := by decide

/-- V10.11 (R227, R102) -/
theorem test_brk_V10_11 :
    shows (step (withConfig (fun c => { c with brkPad := true }) (start 0x0605 0x00 0x00 0x00 0x01 0xEF [(0x0605, 0x00), (0xFFFE, 0x34), (0xFFFF, 0x12)])))
      [0x1234, 0x00, 0x00, 0x00, 0xFE, 0xEF]
      [.read 0x0605 0x00, .write 0x0101 0x06, .write 0x0100 0x07, .write 0x01FF 0xFF, .read 0xFFFE 0x34, .read 0xFFFF 0x12] = true := by decide

/-- V10.13 (R230, R102) -/
theorem test_rti_V10_13 :
    shows (step (start 0x0600 0x00 0x00 0x00 0xFC 0x30 [(0x0600, 0x40), (0x01FD, 0x30), (0x01FE, 0x07), (0x01FF, 0x06)]))
      [0x0607, 0x00, 0x00, 0x00, 0xFF, 0x20]
      [.read 0x0600 0x40, .read 0x01FD 0x30, .read 0x01FE 0x07, .read 0x01FF 0x06] = true := by decide

/-- V10.14 (R230, R102) -/
theorem test_rti_V10_14 :
    shows (step (start 0x0600 0x00 0x00 0x00 0xFE 0x30 [(0x0600, 0x40), (0x0100, 0x34), (0x0101, 0x12), (0x01FF, 0xFF)]))
      [0x1234, 0x00, 0x00, 0x00, 0x01, 0xEF]
      [.read 0x0600 0x40, .read 0x01FF 0xFF, .read 0x0100 0x34, .read 0x0101 0x12] = true := by decide

/-- V10.16 (R231, R103) -/
theorem test_ill02_V10_16 :
    shows (step (withConfig (fun c => { c with illegalModes := ⟨.immediate, []⟩ }) (start 0x0600 0x00 0x00 0x00 0xFF 0x30 [(0x0600, 0x02), (0x0601, 0x11), (0x0602, 0x22)])))
      [0x0602, 0x00, 0x00, 0x00, 0xFF, 0x30]
      [.read 0x0600 0x02, .read 0x0601 0x11] = true := by decide

/-- V10.17 (R231, R107) -/
theorem test_ill02_V10_17 :
    shows (step (withConfig (fun c => { c with illegalModes := ⟨.absolute, []⟩ }) (start 0x0600 0x00 0x00 0x00 0xFF 0x30 [(0x0600, 0x02), (0x0601, 0x11), (0x0602, 0x22)])))
      [0x0603, 0x00, 0x00, 0x00, 0xFF, 0x30]
      [.read 0x0600 0x02, .read 0x0601 0x11, .read 0x0602 0x22] = true := by decide

/-- V10.18 (R231, R111) -/
theorem test_ill03_V10_18 :
    shows (step (withConfig (fun c => { c with illegalModes := ⟨.indirectX, []⟩ }) (start 0x0600 0x00 0x01 0x00 0xFF 0x30 [(0x0600, 0x03), (0x0601, 0x11), (0x0602, 0x22), (0x0012, 0x00), (0x0013, 0x40), (0x4000, 0xEE)])))
      [0x0602, 0x00, 0x01, 0x00, 0xFF, 0x30]
      [.read 0x0600 0x03, .read 0x0601 0x11, .read 0x0012 0x00, .read 0x0013 0x40] = true := by decide

/-- V10.19 (R231, R110) -/
theorem test_ill_f_f_V10_19 :
    shows (step (withConfig (fun c => { c with illegalModes := ⟨.indirect, []⟩ }) (start 0x0600 0x00 0x00 0x00 0xFF 0x30 [(0x0600, 0xFF), (0x0601, 0xFF), (0x0602, 0x30), (0x3000, 0x02), (0x30FF, 0x01)])))
      [0x0603, 0x00, 0x00, 0x00, 0xFF, 0x30]
      [.read 0x0600 0xFF, .read 0x0601 0xFF, .read 0x0602 0x30, .read 0x30FF 0x01, .read 0x3000 0x02] = true := by decide

/-- E2 (R270, R44) -/
theorem test_transition_reset_E2 :
    shows (step { (asked .reset (start 0x0000 0x00 0x00 0x00 0xFF 0x30 [(0xFFFC, 0x00), (0xFFFD, 0x80)])) with resetDone := false })
      [0x0600, 0x00, 0x00, 0x00, 0xFF, 0x30]
      [] = true := by decide

/-- E3 (R270, R272) -/
theorem test_transition_reset_E3 :
    shows (step (withConfig (fun c => { c with resetPcSource := .vector }) (asked .reset (start 0x4321 0x55 0x66 0x77 0x12 0xEF [(0xFFFC, 0x34), (0xFFFD, 0x12)]))))
      [0x1234, 0x00, 0x00, 0x00, 0xFF, 0x30]
      [.read 0xFFFC 0x34, .read 0xFFFD 0x12] = true := by decide

/-- E4 (R244 (masked)) -/
theorem test_transition_interrupt_E4 :
    shows (step (asked .interrupt (start 0x0603 0x00 0x00 0x00 0xFF 0x24 [(0xFFFA, 0x80), (0xFFFB, 0x07), (0xFFFE, 0x00), (0xFFFF, 0x07)])))
      [0x0603, 0x00, 0x00, 0x00, 0xFF, 0x24]
      [] = true := by decide

/-- E7 (R244, R116 (stack wrap)) -/
theorem test_transition_interrupt_E7 :
    shows (step (asked .interrupt (start 0xABCD 0x00 0x00 0x00 0x01 0x30 [(0xFFFA, 0x80), (0xFFFB, 0x07), (0xFFFE, 0x00), (0xFFFF, 0x07)])))
      [0x0700, 0x00, 0x00, 0x00, 0xFE, 0x34]
      [.write 0x0101 0xAB, .write 0x0100 0xCD, .write 0x01FF 0x20, .read 0xFFFE 0x00, .read 0xFFFF 0x07] = true := by decide

/-- E8 (R245, R242) -/
theorem test_transition_nmi_E8 :
    shows (step (asked .nmi (start 0x0603 0x00 0x00 0x00 0xFF 0x24 [(0xFFFA, 0x80), (0xFFFB, 0x07), (0xFFFE, 0x00), (0xFFFF, 0x07)])))
      [0x0780, 0x00, 0x00, 0x00, 0xFC, 0x24]
      [.write 0x01FF 0x06, .write 0x01FE 0x03, .write 0x01FD 0x24, .read 0xFFFA 0x80, .read 0xFFFB 0x07] = true := by decide

/-- E10 (R245, R242 (D kept, D18)) -/
theorem test_transition_nmi_E10 :
    shows (step (asked .nmi (start 0x0000 0x00 0x00 0x00 0x00 0x28 [(0xFFFA, 0x80), (0xFFFB, 0x07), (0xFFFE, 0x00), (0xFFFF, 0x07)])))
      [0x0780, 0x00, 0x00, 0x00, 0xFD, 0x2C]
      [.write 0x0100 0x00, .write 0x01FF 0x00, .write 0x01FE 0x28, .read 0xFFFA 0x80, .read 0xFFFB 0x07] = true := by decide

/-! ### What stands behind the bus (20_memory.md R50 to R53; 00_scope.md R9) -/

/-- The instance with RAM up to 0x7FFF, a device at 0xD000 to 0xDFFF that answers with these bytes in order, and ROM
elsewhere. -/
def onBoard (answers : List Byte) (s : State) : State :=
  withConfig (fun c => { c with bus := ⟨.rom, [⟨0x0000, 0x7FFF, .ram⟩, ⟨0xD000, 0xDFFF, .device⟩], answers⟩ }) s

/-- Two reads of one device address need not agree, and a read of memory between them takes no answer (R50, R52). -/
theorem test_bus_device_reads_in_order :
    (onBoard [0x80, 0xDE] (start 0x0600 0 0 0 0xFF 0x30 [(0x0600, 0x6C)])).answers [0xD000, 0x0600, 0xD000] =
      [0x80, 0x6C, 0xDE] := by decide

/-- A store to a device is a transaction and is not read back from memory: INC reads 0x41 and writes 0x42 (R51, R180). -/
theorem test_bus_device_write_is_not_kept :
    (match step (onBoard [0x41] (start 0x0600 0 0 0 0xFF 0x30 [(0x0600, 0xEE), (0x0601, 0x00), (0x0602, 0xD0)])) with
      | .next t => t.bus == [.read 0x0600 0xEE, .read 0x0601 0x00, .read 0x0602 0xD0, .read 0xD000 0x41, .write 0xD000 0x42] &&
        t.byteAt 0xD000 == 0x00 && t.deviceReads == 1
      | _ => false) = true := by decide

/-- ROM answers with what it holds and keeps no store; CORE does not learn so (R51, R52). -/
theorem test_bus_rom_keeps_no_store :
    (match step (onBoard [] (start 0x0600 0x99 0 0 0xFF 0x30 [(0x0600, 0x8D), (0x0601, 0x00), (0x0602, 0xE0), (0xE000, 0x77)])) with
      | .next t => t.bus == [.read 0x0600 0x8D, .read 0x0601 0x00, .read 0x0602 0xE0, .write 0xE000 0x99] &&
        (t.memRead 0xE000).1 == 0x77
      | _ => false) = true := by decide

/-- A read of a device whose answer BUS does not list completes, with a free value (R53). -/
theorem test_bus_unlisted_answer_is_free :
    ∃ t, exec (.ldyAbs 0xD000) (onBoard [] (start 0x0603 0 0 0 0xFF 0x30 [])) = .next t ∧ t.y = freeAnswer 0 ∧
      t.deviceReads = 1 := ⟨_, rfl, rfl, rfl⟩

/-- The instruction placed is the one the next step runs, also where a device answered at PC. -/
theorem test_bus_fetch_word_over_device :
    (match step ((onBoard [] (start 0xDFFF 0 0 0 0xFF 0x30 [])).withFetchWord 16 0x42A2) with
      | .next t => t.x == 0x42 && t.pc == 0xE001
      | _ => false) = true := by decide

/-! ### Every hypothesis of every statement can be met, one theorem for each clause -/

/-- LDA #$05 at 0x0600. -/
def atLda : State := start 0x0600 0x00 0x00 0x00 0xFF 0x30 [(0x0600, 0xA9), (0x0601, 0x05)]

/-- A state whose opcode byte at 0x0600 is `op`, followed by `0xFF 0x30`, with X = 0xFF and Y = 0xFF. -/
def atOpcode (op : Byte) : State := start 0x0600 0x80 0xFF 0xFF 0xFF 0x30 [(0x0600, op), (0x0601, 0xFF), (0x0602, 0x30)]

theorem witness_DecodeOfEncode :
    (Instr.staAbs 0xFFFF).wf ⟨.implied, []⟩ = true ∧
      (Instr.illFF (.memory (.indirect 0xFFFF))).wf ⟨.indirect, []⟩ = true := by decide

theorem witness_EncodeOfDecode : decode ⟨.implied, []⟩ [0xA9, 0xFF, 0x00] = .instr (.ldaImm 0xFF) [0x00] := by decide

theorem witness_DecodeSampleWords_implied : IllegalModes.modeOf ⟨.implied, []⟩ 0x02 = .implied := by decide

theorem witness_DecodeSampleWords_immediate : IllegalModes.modeOf ⟨.immediate, []⟩ 0x02 = .immediate := by decide

theorem witness_DecodeSampleWords_absolute :
    IllegalModes.modeOf ⟨.implied, [(0x02, .absolute)]⟩ 0x02 = .absolute := by decide

theorem witness_EveryOpcodeByteDecodes :
    decode ⟨.implied, []⟩ [0xAD, 0xFF] = .rejected .truncated ∧ Instr.wf ⟨.implied, []⟩ .nop = true ∧
      encode .nop ++ [0xFF] = [0xEA, 0xFF] := by decide

theorem witness_StepRunsDecodedInstruction :
    atLda.resetDone = true ∧ atLda.nextRequest = .step ∧
      decode atLda.config.illegalModes (Claims.window atLda) = .instr (.ldaImm 0x05) [0x00] := by decide

theorem witness_StepAlwaysAnswers : (start 0xFFFF 0xFF 0xFF 0xFF 0x00 0xFF []).resetDone = true := rfl

theorem witness_OnlyResetBeforeReset_refused :
    State.resetDone { atLda with resetDone := false } = false ∧
      State.nextRequest { atLda with resetDone := false } ≠ .reset := by decide

theorem witness_OnlyResetBeforeReset_answered :
    State.resetDone (asked .reset { atLda with resetDone := false }) = false ∧
      (asked .reset { atLda with resetDone := false }).nextRequest = .reset := by decide

theorem witness_StepKeepsInvariant : ∃ t, atLda.Inv ∧ step atLda = .next t := ⟨_, by unfold State.Inv; decide, rfl⟩

theorem witness_BusEventsExplainMemory : ∃ t, step (asked .nmi atLda) = .next t := ⟨_, rfl⟩

theorem witness_BusTransactionsOfStep :
    ∃ t, (atOpcode 0x6C).nextRequest = .step ∧
      decode (atOpcode 0x6C).config.illegalModes (Claims.window (atOpcode 0x6C)) = .instr (.jmpInd 0x30FF) [] ∧
      step (atOpcode 0x6C) = .next t := ⟨_, by decide, by decide, rfl⟩

theorem witness_AtMostSixBusTransactions : ∃ t, step (atOpcode 0x00) = .next t ∧ t.bus.length = 6 :=
  ⟨_, rfl, by decide⟩

theorem witness_RegistersChangeOnlyAsListed_a :
    ∃ t, exec (.ldaImm 0x05) (atOpcode 0) = .next t ∧ t.a ≠ (atOpcode 0).a := ⟨_, rfl, by decide⟩

theorem witness_RegistersChangeOnlyAsListed_shift :
    ∃ t, exec .aslA (atOpcode 0) = .next t ∧ t.a ≠ (atOpcode 0).a := ⟨_, rfl, by decide⟩

theorem witness_RegistersChangeOnlyAsListed_x :
    ∃ t, exec .inx (atOpcode 0) = .next t ∧ t.x ≠ (atOpcode 0).x := ⟨_, rfl, by decide⟩

theorem witness_RegistersChangeOnlyAsListed_y :
    ∃ t, exec .iny (atOpcode 0) = .next t ∧ t.y ≠ (atOpcode 0).y := ⟨_, rfl, by decide⟩

theorem witness_RegistersChangeOnlyAsListed_sp :
    ∃ t, exec .pla (atOpcode 0) = .next t ∧ t.sp ≠ (atOpcode 0).sp := ⟨_, rfl, by decide⟩

theorem witness_RegistersChangeOnlyAsListed_pc :
    ∃ t, exec (.bcc 0xFF) (atOpcode 0) = .next t ∧ t.pc ≠ (atOpcode 0).pc := ⟨_, rfl, by decide⟩

theorem witness_FlagsChangeOnlyAsListed_nz :
    ∃ t, exec (.ldaImm 0x00) (atOpcode 0) = .next t ∧ (t.p.n ≠ (atOpcode 0).p.n ∨ t.p.z ≠ (atOpcode 0).p.z) :=
  ⟨_, rfl, by decide⟩

theorem witness_FlagsChangeOnlyAsListed_v :
    ∃ t, exec (.adcImm 0x80) (atOpcode 0) = .next t ∧ t.p.v ≠ (atOpcode 0).p.v := ⟨_, rfl, by decide⟩

theorem witness_FlagsChangeOnlyAsListed_c :
    ∃ t, exec .sec (atOpcode 0) = .next t ∧ t.p.c ≠ (atOpcode 0).p.c := ⟨_, rfl, by decide⟩

theorem witness_FlagsChangeOnlyAsListed_d :
    ∃ t, exec .sed (atOpcode 0) = .next t ∧ t.p.d ≠ (atOpcode 0).p.d := ⟨_, rfl, by decide⟩

theorem witness_FlagsChangeOnlyAsListed_i :
    ∃ t, exec .brk (atOpcode 0) = .next t ∧ t.p.i ≠ (atOpcode 0).p.i := ⟨_, rfl, by decide⟩

theorem witness_FlagsChangeOnlyAsListed_bu :
    ∃ t, exec .plp (atOpcode 0) = .next t ∧ (t.p.b ≠ (atOpcode 0).p.b ∨ t.p.u ≠ (atOpcode 0).p.u) :=
  ⟨_, rfl, by decide⟩

theorem witness_MemoryChangesOnlyWhereStored_not_stored :
    ∃ t, exec (.staAbx 0xFF01) (atOpcode 0) = .next t ∧
      (0x0001 : Word) ∉ Claims.storeAddrs (atOpcode 0) (.staAbx 0xFF01) := ⟨_, rfl, by decide⟩

theorem witness_MemoryChangesOnlyWhereStored_not_ram :
    ∃ t, exec (.staAbs 0x8000) (onBoard [] (atOpcode 0)) = .next t ∧
      (onBoard [] (atOpcode 0)).config.bus.backingOf 0x8000 ≠ .ram := ⟨_, rfl, by decide⟩

theorem witness_TransitionsKeepParametersAndTakeOneRequest : ∃ t, step (asked .interrupt atLda) = .next t := ⟨_, rfl⟩

theorem witness_StoredBreakAndUnusedAreNeverRead : ∃ t, step (atOpcode 0x08) = .next t := ⟨_, rfl⟩

theorem witness_DecimalFlagHasNoEffect :
    ∃ t, (Instr.adcImm 0x99).handler ∉ [Handler.php, .brk] ∧ exec (.adcImm 0x99) (atOpcode 0) = .next t :=
  ⟨_, by decide, rfl⟩

/-- The instruction fetched has this operand, and the bytes answered at PC are the opcode byte and `0xFF 0x30`. -/
def fetches (op : Byte) (o : Operand) : Prop :=
  ∃ i u, (atOpcode op).fetch = (i, u) ∧ i.operand = o ∧ Claims.window (atOpcode op) = [op, 0xFF, 0x30]

/-- The state after the fetch at PC. -/
def afterFetch (op : Byte) : State := (atOpcode op).fetch.2

theorem witness_ImpliedAndImmediateOperands_implied : fetches 0x0A .implied := ⟨_, _, rfl, by decide, by decide⟩

theorem witness_ImpliedAndImmediateOperands_immediate : fetches 0xA9 (.immediate 0xFF) :=
  ⟨_, _, rfl, by decide, by decide⟩

theorem witness_ZeroPageModes_plain :
    fetches 0xA5 (.memory (.zeroPage 0xFF)) ∧ (0x00FF : Word).toNat = (0xFF : Byte).toNat :=
  ⟨⟨_, _, rfl, by decide, by decide⟩, by decide⟩

/-- The sum of 0xFF and X = 0xFF wraps inside page 0. -/
theorem witness_ZeroPageModes_x :
    fetches 0xB5 (.memory (.zeroPageX 0xFF)) ∧
      (0x00FE : Word).toNat = ((0xFF : Byte).toNat + (atOpcode 0xB5).x.toNat) % 256 :=
  ⟨⟨_, _, rfl, by decide, by decide⟩, by decide⟩

theorem witness_ZeroPageModes_y :
    fetches 0xB6 (.memory (.zeroPageY 0xFF)) ∧
      (0x00FE : Word).toNat = ((0xFF : Byte).toNat + (atOpcode 0xB6).y.toNat) % 256 :=
  ⟨⟨_, _, rfl, by decide, by decide⟩, by decide⟩

theorem witness_AbsoluteModes_plain :
    fetches 0xAD (.memory (.absolute 0x30FF)) ∧
      (0x30FF : Word).toNat = 256 * (0x30 : Byte).toNat + (0xFF : Byte).toNat :=
  ⟨⟨_, _, rfl, by decide, by decide⟩, by decide⟩

theorem witness_AbsoluteModes_x :
    fetches 0xBD (.memory (.absoluteX 0x30FF)) ∧
      (0x31FE : Word).toNat = ((0x30FF : Word).toNat + (atOpcode 0xBD).x.toNat) % 65536 :=
  ⟨⟨_, _, rfl, by decide, by decide⟩, by decide⟩

theorem witness_AbsoluteModes_y :
    fetches 0xB9 (.memory (.absoluteY 0x30FF)) ∧
      (0x31FE : Word).toNat = ((0x30FF : Word).toNat + (atOpcode 0xB9).y.toNat) % 65536 :=
  ⟨⟨_, _, rfl, by decide, by decide⟩, by decide⟩

/-- The pointer's low byte is 0xFF: its high byte is at the start of the page, 255 below. -/
theorem witness_PointerModes_indirect :
    fetches 0x6C (.memory (.indirect 0x30FF)) ∧ (0x30FF : Word).toNat % 256 = 255 ∧ (0x3000 : Word) = 0x30FF - 255 ∧
      (afterFetch 0x6C).answers [0x30FF, 0x3000] = [0x00, 0x00] :=
  ⟨⟨_, _, rfl, by decide, by decide⟩, by decide, by decide, by decide⟩

/-- The pointer is at 0xFE, the sum of 0xFF and X = 0xFF modulo 256. -/
theorem witness_PointerModes_indirectX :
    fetches 0xA1 (.memory (.indirectX 0xFF)) ∧
      (0x00FE : Word).toNat = ((0xFF : Byte).toNat + (atOpcode 0xA1).x.toNat) % 256 ∧
      (0x00FF : Word).toNat = ((0x00FE : Word).toNat + 1) % 256 ∧
      (afterFetch 0xA1).answers [0x00FE, 0x00FF] = [0x00, 0x00] :=
  ⟨⟨_, _, rfl, by decide, by decide⟩, by decide, by decide, by decide⟩

/-- The pointer is at 0xFF, so that its high byte is at 0x0000. -/
theorem witness_PointerModes_indirectY :
    fetches 0xB1 (.memory (.indirectY 0xFF)) ∧ (0x00FF : Word).toNat = (0xFF : Byte).toNat ∧
      (0x0000 : Word).toNat = ((0xFF : Byte).toNat + 1) % 256 ∧
      (afterFetch 0xB1).answers [0x00FF, 0x0000] = [0x00, 0x00] :=
  ⟨⟨_, _, rfl, by decide, by decide⟩, by decide, by decide, by decide⟩

theorem witness_PullsLoadAboveStackPointer : (0x00 : Byte) = (atOpcode 0).answerAt (stackAddr ((atOpcode 0).sp + 1)) := by
  decide

/-- The signed sum of 0x80, 0x80 and no carry overflows. -/
theorem witness_AdcAddsWithCarry :
    (0x80 : Byte) = (atOpcode 0).operandValue (.immediate 0x80) ∧
      256 = (atOpcode 0).a.toNat + (0x80 : Byte).toNat + (atOpcode 0).p.c.toNat ∧ (0x00 : Byte) = BitVec.ofNat 8 256 := by
  decide

/-- 0x80 less 0x01 and a borrow: the signed difference is outside -128 to 127. -/
theorem witness_SbcSubtractsWithBorrow :
    (0x01 : Byte) = (atOpcode 0).operandValue (.immediate 0x01) ∧
      (126 : Int) = ((atOpcode 0).a.toNat : Int) - (0x01 : Byte).toNat - (1 - (atOpcode 0).p.c.toNat) ∧
      (0x7E : Byte) = BitVec.ofInt 8 126 := by decide

theorem witness_ShiftsMoveOneBit : (0xFF : Byte) = (atOpcode 0).operandValue (.memory (.absolute 0x0601)) := by decide

theorem witness_RotatesPassThroughCarry : (0x30 : Byte) = (atOpcode 0).operandValue (.memory (.absoluteX 0x0503)) := by
  decide

/-- SP = 0xFE: the second byte is at the wrapped stack address 0x0100. -/
theorem witness_RtsReturnsPastPulledWord :
    (start 0x0601 0 0 0 0xFE 0x30 [(0x01FF, 0x34), (0x0100, 0x12)]).answers
      [stackAddr (0xFE + 1), stackAddr (0xFE + 2)] = [0x34, 0x12] := by decide

theorem witness_RtiRestoresStatusAndProgramCounter :
    (start 0x0601 0 0 0 0xFE 0x30 [(0x01FF, 0xC3), (0x0100, 0x34), (0x0101, 0x12)]).answers
      [stackAddr (0xFE + 1), stackAddr (0xFE + 2), stackAddr (0xFE + 3)] = [0xC3, 0x34, 0x12] := by decide

theorem witness_InterruptIsMaskedOrTaken_masked :
    State.resetDone (asked .interrupt (start 0x0603 0 0 0 0xFF 0x24 [])) = true ∧
      (asked .interrupt (start 0x0603 0 0 0 0xFF 0x24 [])).nextRequest = .interrupt ∧
      (asked .interrupt (start 0x0603 0 0 0 0xFF 0x24 [])).p.i = true := by decide

theorem witness_InterruptIsMaskedOrTaken_taken :
    State.resetDone (asked .interrupt (start 0x0603 0 0 0 0x00 0x20 [])) = true ∧
      (asked .interrupt (start 0x0603 0 0 0 0x00 0x20 [])).nextRequest = .interrupt ∧
      (asked .interrupt (start 0x0603 0 0 0 0x00 0x20 [])).p.i = false := by decide

theorem witness_NmiIsAlwaysTaken :
    State.resetDone (asked .nmi (start 0x0603 0 0 0 0xFF 0x24 [])) = true ∧
      (asked .nmi (start 0x0603 0 0 0 0xFF 0x24 [])).nextRequest = .nmi := by decide

theorem witness_ResetOverwritesRegisterFile :
    (asked .reset (start 0x4321 0x55 0x66 0x77 0x12 0xEF [(0xFFFC, 0x34), (0xFFFD, 0x12)])).nextRequest = .reset ∧
      (asked .reset (start 0x4321 0x55 0x66 0x77 0x12 0xEF [(0xFFFC, 0x34), (0xFFFD, 0x12)])).answers [0xFFFC, 0xFFFD] =
        [0x34, 0x12] := by decide

/-- The vector is in the stack page: its first byte, at 0x01FF, is the status the entry itself has pushed. -/
theorem witness_EntrySequenceIsCommon :
    ∃ t u : State, t = (start 0x0603 0 0 0 0x01 0x30 []).enter 0xFFFF true 0x01FF ∧
      u = { start 0x0603 0 0 0 0x01 0x30 [] with mem := t.mem } ∧ u.answers [0x01FF, 0x01FF + 1] = [0x30, 0x00] :=
  ⟨_, _, rfl, rfl, by decide⟩

/-- The premise of RtiUndoesEntry, RtsReturnsAfterJsr, PullAfterPushRestores and NmiBeforeInterruptDropsIt. -/
theorem witness_StackIsRam : (start 0x0603 0 0 0 0x00 0x30 []).StackIsRam ∧ (onBoard [] atLda).StackIsRam := by
  unfold State.StackIsRam
  exact ⟨fun _ => rfl, fun sp => by
    have h := stackAddr_toNat sp
    have := sp.isLt
    have hc : BusRegion.covers ⟨0x0000, 0x7FFF, .ram⟩ (stackAddr sp) = true := by
      simp [BusRegion.covers, BitVec.le_def, h]
      omega
    simp only [onBoard, withConfig, Bus.backingOf, List.find?_cons, hc]⟩

theorem witness_NmiBeforeInterruptDropsIt_nmi_first :
    State.resetDone (asked .nmi (asked .interrupt atLda)) = true ∧
      State.requests (asked .nmi (asked .interrupt atLda)) = .nmi :: .interrupt :: [] := by decide

theorem witness_NmiBeforeInterruptDropsIt_interrupt_first :
    State.resetDone (asked .interrupt (asked .nmi atLda)) = true ∧
      State.requests (asked .interrupt (asked .nmi atLda)) = .interrupt :: .nmi :: [] ∧
      (asked .interrupt (asked .nmi atLda)).p.i = false ∧
      (asked .interrupt (asked .nmi atLda)).answers [0xFFFE, 0xFFFF, 0xFFFA, 0xFFFB] = [0x00, 0x00, 0x00, 0x00] := by
  decide

theorem witness_StackPrimitives :
    (0x05 : Byte) = (start 0x0600 0 0 0 0xFF 0x30 [(0x0100, 0x05)]).answerAt (stackAddr (0xFF + 1)) := by decide

theorem witness_EnvironmentAnswersReadsAndTakesWrites_memory :
    (onBoard [] atLda).config.bus.backingOf 0x7FFF ≠ .device ∧
      (onBoard [] atLda).config.bus.backingOf 0xFFFF ≠ .device := by decide

theorem witness_EnvironmentAnswersReadsAndTakesWrites_device :
    (onBoard [0x11] atLda).config.bus.backingOf 0xD000 = .device ∧
      (0x11 : Byte) = ((onBoard [0x11] atLda).config.bus.answers[(onBoard [0x11] atLda).deviceReads]?).getD
        (freeAnswer (onBoard [0x11] atLda).deviceReads) := by decide

theorem witness_EnvironmentAnswersReadsAndTakesWrites_not_ram :
    (onBoard [] atLda).config.bus.backingOf 0x8000 ≠ .ram := by decide

theorem witness_EnvironmentAnswersReadsAndTakesWrites_any_answers :
    ([0xD000, 0xD000] : List Word).length = ([0x11, 0x22] : List Byte).length := rfl

end Sys2Proof.Tests
end

section
/-! SUPPORT. What every instruction can do to the state, said once: it writes registers, reads the bus and writes
the bus. -/

namespace Sys2Proof.Machine

/-- `s.Does t`: `t` comes from `s` by register writes, bus reads and bus writes, and by nothing else. -/
inductive State.Does (s : State) : State → Prop
  | refl : s.Does s
  | registers {t : State} (h : s.Does t) (a x y sp : Byte) (pc : Word) (p : Status) :
      s.Does { t with a := a, x := x, y := y, sp := sp, pc := pc, p := p }
  | read {t : State} (h : s.Does t) (addr : Word) : s.Does (t.memRead addr).2
  | write {t : State} (h : s.Does t) (addr : Word) (v : Byte) : s.Does (t.memWrite addr v)

namespace State.Does

variable {s t u : State}

theorem trans (h : s.Does t) (h' : t.Does u) : s.Does u := by
  induction h' with
  | refl => exact h
  | registers _ a x y sp pc p ih => exact .registers ih a x y sp pc p
  | read _ addr ih => exact .read ih addr
  | write _ addr v ih => exact .write ih addr v

theorem reads (h : s.Does t) (l : List Word) : s.Does (t.afterReads l) := by
  induction l generalizing t with
  | nil => simpa using h
  | cons addr l ih => rw [State.afterReads_cons]; exact ih (.read h addr)

theorem push (h : s.Does t) (v : Byte) : s.Does (t.push v) :=
  .registers (.write h (stackAddr t.sp) v) ..

theorem pushWord (h : s.Does t) (w : Word) : s.Does (t.pushWord w) :=
  (h.push (hiByte w)).push (loByte w)

theorem enter (h : s.Does t) (ret : Word) (b : Bool) (vec : Word) : s.Does (t.enter ret b vec) := by
  rw [State.enter_eq]
  exact .registers (reads ((h.pushWord ret).push (packP b t.p)) _) ..

theorem onMemory (h : s.Does t) {f : MemOperand → State} (hf : ∀ m, s.Does (f m)) (o : Operand) :
    s.Does (t.onMemory o f) := by
  cases o with
  | implied => exact h
  | immediate _ => exact h
  | memory m => exact hf m

/-- The parameters, the list of requests and the mark of the first reset are no register and no byte behind the bus. -/
theorem environment_eq (h : s.Does t) :
    t.config = s.config ∧ t.requests = s.requests ∧ t.resetDone = s.resetDone := by
  induction h with
  | refl => exact ⟨rfl, rfl, rfl⟩
  | registers _ _ _ _ _ _ _ ih => exact ih
  | read _ _ ih => exact ih
  | write _ _ _ ih => exact ih

theorem mem_wf (h : s.Does t) (hs : s.mem.wf) : t.mem.wf := by
  induction h with
  | refl => exact hs
  | registers _ _ _ _ _ _ _ ih => exact ih
  | read _ _ ih => exact ih
  | write _ addr v ih => exact State.memWrite_wf _ ih addr v

end State.Does

variable (s : State)

theorem State.does_store (m : MemOperand) (v : Byte) : s.Does (s.store m v) := by
  rw [State.store_eq]
  exact .write (.reads .refl _) ..

theorem State.does_modify (f : Byte → Byte) (m : MemOperand) : s.Does (s.modify f m) := by
  rw [State.modify_eq]
  exact .registers (.write (.reads .refl _) _ _) ..

theorem State.does_shift (f : Bool → Byte → ShiftResult) (o : ShiftOperand) : s.Does (s.shift f o) := by
  cases o with
  | accumulator => rw [State.shift_accumulator_eq]; exact .registers .refl ..
  | memory m => rw [State.shift_memory_eq]; exact .registers (.write (.reads .refl _) _ _) ..

theorem State.does_jump (m : MemOperand) : s.Does (s.jump m) := by
  rw [State.jump_eq]
  exact .registers (.reads .refl _) ..

theorem State.does_jsr (m : MemOperand) : s.Does (s.jsr m) := by
  rw [State.jsr_eq]
  exact .registers (.pushWord (.reads .refl _) _) ..

theorem State.does_branch (cond : Bool) (d8 : Byte) : s.Does (s.branch cond d8) := by
  rw [State.branch_eq]
  exact .registers .refl ..

/-- Every handler writes registers, reads the bus and writes the bus, and does nothing else. -/
theorem State.does_run (h : Handler) (o : Operand) : s.Does (s.run h o) := by
  cases h
  case lda | ldx | ldy | and | ora | eor | bit | adc | sbc | cmp | cpx | cpy =>
    simp only [State.run, State.lda_eq, State.ldx_eq, State.ldy_eq, State.logic_eq, State.bitTest_eq, State.adc_eq,
      State.sbc_eq, State.compare_eq]
    exact .registers (.reads .refl _) ..
  case pla | plp | rts | rti =>
    simp only [State.run, State.pla_eq, State.plp_eq, State.rts_eq, State.leave_eq]
    exact .registers (.reads .refl _) ..
  case tax | tay | txa | tya | tsx | txs | inx | dex | iny | dey | clc | cld | cli | clv | sec | sed | sei =>
    exact .registers .refl ..
  case bcc | bcs | bne | beq | bpl | bmi | bvc | bvs => exact s.does_branch _ _
  case sta | stx | sty => exact .onMemory .refl (fun m => s.does_store m _) o
  case inc | dec => exact .onMemory .refl (fun m => s.does_modify _ m) o
  case asl | lsr | rol | ror => exact s.does_shift _ _
  case jmp => exact .onMemory .refl s.does_jump o
  case jsr => exact .onMemory .refl s.does_jsr o
  case pha | php => exact .push .refl _
  case brk => exact .enter .refl ..
  case nop => exact .refl
  case noOp =>
    rw [State.run, State.resolveOnly_eq]
    exact .reads .refl _

theorem State.does_fetch : s.Does s.fetch.2 := by
  rw [s.fetch_eq rfl]
  exact .registers (.reads .refl _) ..

theorem State.does_interrupt : s.Does s.interrupt := by
  unfold State.interrupt
  split
  · exact .refl
  · exact .enter .refl ..

/-- Every transition but `reset` does the same, from the state it begins in. -/
theorem step_does {s t : State} (h : step s = .next t) :
    (s.nextRequest = .reset ∧ t = s.beginTransition.performReset) ∨
      (s.resetDone = true ∧ s.beginTransition.Does t) := by
  obtain ⟨hq, ht⟩ | ⟨-, hr, ht⟩ | ⟨-, hr, ht⟩ | ⟨-, hr, he⟩ := step_cases h
  · exact .inl ⟨hq, ht⟩
  · exact .inr ⟨hr, ht ▸ State.does_interrupt _⟩
  · exact .inr ⟨hr, ht ▸ .enter .refl ..⟩
  · exact .inr ⟨hr, exec_next he ▸ (State.does_fetch _).trans (State.does_run _ _ _)⟩

end Sys2Proof.Machine
end

section
/-! SUPPORT. The side-effect table of 10_state.md R35: what each handler can leave in the status. -/

namespace Sys2Proof.Machine

variable (s : State)

@[simp] theorem State.lda_p (o : Operand) : (s.lda o).p = s.p.setZN (s.operandValue o) := by rw [State.lda_eq]
@[simp] theorem State.ldx_p (o : Operand) : (s.ldx o).p = s.p.setZN (s.operandValue o) := by rw [State.ldx_eq]
@[simp] theorem State.ldy_p (o : Operand) : (s.ldy o).p = s.p.setZN (s.operandValue o) := by rw [State.ldy_eq]
@[simp] theorem State.store_p (m : MemOperand) (v : Byte) : (s.store m v).p = s.p := by rw [State.store_eq]; rfl
@[simp] theorem State.pla_p : s.pla.p = s.p.setZN (s.answerAt (stackAddr (s.sp + 1))) := rfl
@[simp] theorem State.plp_p : s.plp.p = unpackP (s.answerAt (stackAddr (s.sp + 1))) := rfl
@[simp] theorem State.leave_p : s.leave.p = unpackP (s.answerAt (stackAddr (s.sp + 1))) := by rw [State.leave_eq]
@[simp] theorem State.logic_p (f : Byte → Byte) (o : Operand) :
    (s.logic f o).p = s.p.setZN (f (s.operandValue o)) := by rw [State.logic_eq]
@[simp] theorem State.bitTest_p (o : Operand) : (s.bitTest o).p = s.p.bitTest s.a (s.operandValue o) := by
  rw [State.bitTest_eq]
@[simp] theorem State.adc_p (o : Operand) :
    (s.adc o).p = s.p.ofAdd (addWithCarry s.a (s.operandValue o) s.p.c) := by rw [State.adc_eq]
@[simp] theorem State.sbc_p (o : Operand) :
    (s.sbc o).p = s.p.ofAdd (subWithCarry s.a (s.operandValue o) s.p.c) := by rw [State.sbc_eq]
@[simp] theorem State.compare_p (r : Byte) (o : Operand) : (s.compare r o).p = s.p.compare r (s.operandValue o) := by
  rw [State.compare_eq]
@[simp] theorem State.modify_p (f : Byte → Byte) (m : MemOperand) :
    (s.modify f m).p = s.p.setZN (f (s.operandValue (.memory m))) := by rw [State.modify_eq]
@[simp] theorem State.jump_p (m : MemOperand) : (s.jump m).p = s.p := by rw [State.jump_eq]; rfl
@[simp] theorem State.jsr_p (m : MemOperand) : (s.jsr m).p = s.p := by rw [State.jsr_eq]; rfl
@[simp] theorem State.rts_p : s.rts.p = s.p := by rw [State.rts_eq]; rfl
@[simp] theorem State.branch_p (cond : Bool) (d8 : Byte) : (s.branch cond d8).p = s.p := by rw [State.branch_eq]
@[simp] theorem State.resolveOnly_p (o : Operand) : (s.resolveOnly o).p = s.p := by rw [State.resolveOnly_eq]; rfl

/-- A shift gives its result's flags, whichever operand it has. -/
theorem State.shift_p (f : Bool → Byte → ShiftResult) (o : ShiftOperand) : ∃ r, (s.shift f o).p = s.p.ofShift r := by
  cases o with
  | accumulator => exact ⟨_, by rw [State.shift_accumulator_eq]⟩
  | memory m => exact ⟨_, by rw [State.shift_memory_eq]⟩

/-- The statuses a handler can leave, from the status `p` (10_state.md R35). Each constructor names a row of the table,
the handlers of that row, and what it writes. -/
inductive Status.Leaves (p : Status) (h : Handler) : Status → Prop
  | kept : p.Leaves h p
  | zn (v : Byte) (hh : h ∈ [Handler.lda, .ldx, .ldy, .tax, .tay, .txa, .tya, .tsx, .pla, .and, .ora, .eor, .inc, .dec,
      .inx, .dex, .iny, .dey]) : p.Leaves h (p.setZN v)
  | added (r : AddResult) (hh : h ∈ [Handler.adc, .sbc]) : p.Leaves h (p.ofAdd r)
  | compared (r m : Byte) (hh : h ∈ [Handler.cmp, .cpx, .cpy]) : p.Leaves h (p.compare r m)
  | shifted (r : ShiftResult) (hh : h ∈ [Handler.asl, .lsr, .rol, .ror]) : p.Leaves h (p.ofShift r)
  | bitsTested (a m : Byte) (hh : h ∈ [Handler.bit]) : p.Leaves h (p.bitTest a m)
  | pulled (v : Byte) (hh : h ∈ [Handler.plp, .rti]) : p.Leaves h (unpackP v)
  | carrySet (f : Bool) (hh : h ∈ [Handler.clc, .sec]) : p.Leaves h { p with c := f }
  | decimalSet (f : Bool) (hh : h ∈ [Handler.cld, .sed]) : p.Leaves h { p with d := f }
  | irqDisableSet (f : Bool) (hh : h ∈ [Handler.cli, .sei, .brk]) : p.Leaves h { p with i := f }
  | overflowCleared (hh : h ∈ [Handler.clv]) : p.Leaves h { p with v := false }

/-- A handler with a memory operand leaves what `f` leaves, or keeps the status of an operand that is none. -/
theorem State.onMemory_leaves {h : Handler} {f : MemOperand → State} (hf : ∀ m, s.p.Leaves h (f m).p) (o : Operand) :
    s.p.Leaves h (s.onMemory o f).p := by
  cases o with
  | implied => exact .kept
  | immediate _ => exact .kept
  | memory m => exact hf m

/-- Every handler keeps to its row of the side-effect table. -/
theorem State.run_leaves (h : Handler) (o : Operand) : s.p.Leaves h (s.run h o).p := by
  cases h
  case lda | ldx | ldy | and | ora | eor | pla =>
    simp only [State.run, State.lda_p, State.ldx_p, State.ldy_p, State.logic_p, State.pla_p]
    exact .zn _ (by decide)
  case tax | tay | txa | tya | tsx | inx | dex | iny | dey => exact .zn _ (by decide)
  case inc | dec => exact s.onMemory_leaves (fun m => by rw [State.modify_p]; exact .zn _ (by decide)) o
  case adc | sbc =>
    simp only [State.run, State.adc_p, State.sbc_p]
    exact .added _ (by decide)
  case cmp | cpx | cpy =>
    simp only [State.run, State.compare_p]
    exact .compared _ _ (by decide)
  case asl | lsr | rol | ror =>
    obtain ⟨r, hr⟩ := s.shift_p _ (shiftOperand o)
    exact hr ▸ .shifted r (by decide)
  case bit => rw [State.run, State.bitTest_p]; exact .bitsTested _ _ (by decide)
  case plp | rti =>
    simp only [State.run, State.plp_p, State.leave_p]
    exact .pulled _ (by decide)
  case clc | sec => exact .carrySet _ (by decide)
  case cld | sed => exact .decimalSet _ (by decide)
  case cli | sei => exact .irqDisableSet _ (by decide)
  case clv => exact .overflowCleared (by decide)
  case brk => rw [State.run, State.brk, State.enter_p]; exact .irqDisableSet _ (by decide)
  case sta | stx | sty => exact s.onMemory_leaves (fun m => by rw [State.store_p]; exact .kept) o
  case jmp => exact s.onMemory_leaves (fun m => by rw [State.jump_p]; exact .kept) o
  case jsr => exact s.onMemory_leaves (fun m => by rw [State.jsr_p]; exact .kept) o
  case txs | pha | php | nop => exact .kept
  case rts | bcc | bcs | bne | beq | bpl | bmi | bvc | bvs | noOp =>
    simp only [State.run, State.rts_p, State.branch_p, State.resolveOnly_p]
    exact .kept

/-- A handler of one list is one of every longer list. -/
theorem mem_of_row {h : Handler} {l l' : List Handler} (hh : h ∈ l) (hl : l ⊆ l' := by decide) : h ∈ l' := hl hh

/-! The table read by column: which handlers can change a flag. -/

namespace Status.Leaves

variable {p q : Status} {h : Handler}

/-- Every handler that has SetZN, and those that write Z and N with other flags. -/
theorem negative_or_zero (hl : p.Leaves h q) (hne : q.n ≠ p.n ∨ q.z ≠ p.z) :
    h ∈ [Handler.lda, .ldx, .ldy, .tax, .tay, .txa, .tya, .tsx, .pla, .and, .ora, .eor, .inc, .dec, .inx, .dex, .iny,
      .dey, .adc, .sbc, .cmp, .cpx, .cpy, .asl, .lsr, .rol, .ror, .bit, .plp, .rti] := by
  cases hl with
  | zn _ hh | added _ hh | compared _ _ hh | shifted _ hh | bitsTested _ _ hh | pulled _ hh => exact mem_of_row hh
  | _ => exact hne.elim (absurd rfl) (absurd rfl)

theorem overflow (hl : p.Leaves h q) (hne : q.v ≠ p.v) : h ∈ [Handler.adc, .sbc, .bit, .clv, .plp, .rti] := by
  cases hl with
  | added _ hh | bitsTested _ _ hh | pulled _ hh | overflowCleared hh => exact mem_of_row hh
  | _ => exact absurd rfl hne

theorem carry (hl : p.Leaves h q) (hne : q.c ≠ p.c) :
    h ∈ [Handler.adc, .sbc, .cmp, .cpx, .cpy, .asl, .lsr, .rol, .ror, .clc, .sec, .plp, .rti] := by
  cases hl with
  | added _ hh | compared _ _ hh | shifted _ hh | pulled _ hh | carrySet _ hh => exact mem_of_row hh
  | _ => exact absurd rfl hne

theorem decimal (hl : p.Leaves h q) (hne : q.d ≠ p.d) : h ∈ [Handler.cld, .sed, .plp, .rti] := by
  cases hl with
  | pulled _ hh | decimalSet _ hh => exact mem_of_row hh
  | _ => exact absurd rfl hne

theorem irqDisable (hl : p.Leaves h q) (hne : q.i ≠ p.i) : h ∈ [Handler.cli, .sei, .plp, .rti, .brk] := by
  cases hl with
  | pulled _ hh | irqDisableSet _ hh => exact mem_of_row hh
  | _ => exact absurd rfl hne

/-- Only a pull stores B and U (92_eei_decisions.md D10). -/
theorem break_or_unused (hl : p.Leaves h q) (hne : q.b ≠ p.b ∨ q.u ≠ p.u) : h ∈ [Handler.plp, .rti] := by
  cases hl with
  | pulled _ hh => exact hh
  | _ => exact hne.elim (absurd rfl) (absurd rfl)

/-- Every row keeps U 1: a pull stores 1, and nothing else stores it (10_state.md R32). -/
theorem unused_of_unused (hl : p.Leaves h q) (hu : p.u = true) : q.u = true := by
  cases hl with
  | pulled _ _ => rfl
  | _ => exact hu

end Status.Leaves

/-- Every transition keeps U 1: `reset` stores it, an entry does not touch it, an instruction keeps to its row. -/
theorem step_unused_of_unused {s t : State} (hu : s.p.u = true) (h : step s = .next t) : t.p.u = true := by
  obtain ⟨-, rfl⟩ | ⟨-, -, rfl⟩ | ⟨-, -, rfl⟩ | ⟨-, -, he⟩ := step_cases h
  · rfl
  · unfold State.interrupt
    split
    · exact hu
    · simpa using hu
  · simpa [State.nmi] using hu
  · obtain rfl := exec_next he
    refine (State.run_leaves _ _ _).unused_of_unused ?_
    rw [State.fetch_eq _ rfl]
    exact hu

end Sys2Proof.Machine
end

section
/-! SUPPORT. The stored B and U bits reach nothing: each operation run from `withBU s b u` gives what it gives from
`s`, but for those two bits (10_state.md R31, R32). Each lemma says so by making the two results equal in B and U. -/

namespace Sys2Proof.Machine

open Claims

variable (s : State) (b u b' u' : Bool)

@[simp] theorem pointerAddrs_withBU (m : MemOperand) : (withBU s b u).pointerAddrs m = s.pointerAddrs m := by
  cases m <;> rfl

@[simp] theorem effectiveAddress_withBU (m : MemOperand) :
    (withBU s b u).effectiveAddress m = s.effectiveAddress m := by
  cases m <;> rfl

@[simp] theorem operandAddrs_withBU (o : Operand) : (withBU s b u).operandAddrs o = s.operandAddrs o := by
  cases o <;> simp [State.operandAddrs]

@[simp] theorem operandValue_withBU (o : Operand) : (withBU s b u).operandValue o = s.operandValue o := by
  cases o with
  | implied => rfl
  | immediate _ => rfl
  | memory m =>
    rw [State.operandValue_memory, State.operandValue_memory, pointerAddrs_withBU, effectiveAddress_withBU]
    rfl

theorem withBU_onMemory {f g : MemOperand → State} (h : ∀ m, withBU (g m) b' u' = withBU (f m) b' u') (o : Operand) :
    withBU ((withBU s b u).onMemory o g) b' u' = withBU (s.onMemory o f) b' u' := by
  cases o with
  | implied => rfl
  | immediate _ => rfl
  | memory m => exact h m

theorem withBU_store (m : MemOperand) (v : Byte) :
    withBU ((withBU s b u).store m v) b' u' = withBU (s.store m v) b' u' := by
  simp only [State.store_eq, pointerAddrs_withBU, effectiveAddress_withBU]
  rfl

theorem withBU_modify (f : Byte → Byte) (m : MemOperand) :
    withBU ((withBU s b u).modify f m) b' u' = withBU (s.modify f m) b' u' := by
  simp only [State.modify_eq, operandAddrs_withBU, effectiveAddress_withBU, operandValue_withBU]
  rfl

theorem withBU_shift (f : Bool → Byte → ShiftResult) (o : ShiftOperand) :
    withBU ((withBU s b u).shift f o) b' u' = withBU (s.shift f o) b' u' := by
  cases o with
  | accumulator => rfl
  | memory m =>
    simp only [State.shift_memory_eq, operandAddrs_withBU, effectiveAddress_withBU, operandValue_withBU]
    rfl

theorem withBU_jump (m : MemOperand) : withBU ((withBU s b u).jump m) b' u' = withBU (s.jump m) b' u' := by
  simp only [State.jump_eq, pointerAddrs_withBU, effectiveAddress_withBU]
  rfl

theorem withBU_jsr (m : MemOperand) : withBU ((withBU s b u).jsr m) b' u' = withBU (s.jsr m) b' u' := by
  simp only [State.jsr_eq, pointerAddrs_withBU, effectiveAddress_withBU]
  rfl

theorem withBU_branch (cond : Bool) (d8 : Byte) :
    withBU ((withBU s b u).branch cond d8) b' u' = withBU (s.branch cond d8) b' u' := by
  cases cond <;> rfl

theorem withBU_resolveOnly (o : Operand) :
    withBU ((withBU s b u).resolveOnly o) b' u' = withBU (s.resolveOnly o) b' u' := by
  cases o with
  | implied => rfl
  | immediate _ => rfl
  | memory m =>
    simp only [State.resolveOnly_eq, pointerAddrs_withBU]
    rfl

/-- What an entry pushes has bit 5 set and bit 4 given, whatever is stored (10_state.md R37). -/
theorem withBU_enter (ret : Word) (brk : Bool) (vec : Word) :
    withBU ((withBU s b u).enter ret brk vec) b' u' = withBU (s.enter ret brk vec) b' u' := rfl

theorem withBU_interrupt : withBU (withBU s b u).interrupt b' u' = withBU s.interrupt b' u' := by
  rw [State.interrupt, State.interrupt, show (withBU s b u).p.i = s.p.i from rfl]
  cases s.p.i
  · exact withBU_enter ..
  · rfl

theorem performReset_withBU : (withBU s b u).performReset = s.performReset := by
  rw [State.performReset_eq, State.performReset_eq]
  rfl

/-- A fetch leaves the stored bits as they are. -/
theorem fetch_withBU : (withBU s b u).fetch = (s.fetch.1, withBU s.fetch.2 b u) := by
  rw [State.fetch_eq (withBU s b u) rfl, State.fetch_eq s rfl]
  rfl

/-- No handler's result depends on the stored bits; PLP and RTI overwrite them, the others hand them on. -/
theorem withBU_run (h : Handler) (o : Operand) :
    withBU ((withBU s b u).run h o) b' u' = withBU (s.run h o) b' u' := by
  cases h
  case lda | ldx | ldy | and | ora | eor | bit | adc | sbc | cmp | cpx | cpy =>
    simp only [State.run, State.lda_eq, State.ldx_eq, State.ldy_eq, State.logic_eq, State.bitTest_eq, State.adc_eq,
      State.sbc_eq, State.compare_eq, operandAddrs_withBU, operandValue_withBU]
    rfl
  case sta | stx | sty => exact withBU_onMemory _ _ _ _ _ (fun m => withBU_store ..) o
  case inc | dec => exact withBU_onMemory _ _ _ _ _ (fun m => withBU_modify ..) o
  case jmp => exact withBU_onMemory _ _ _ _ _ (fun m => withBU_jump ..) o
  case jsr => exact withBU_onMemory _ _ _ _ _ (fun m => withBU_jsr ..) o
  case asl | lsr | rol | ror => exact withBU_shift ..
  case bcc | bcs | bne | beq | bpl | bmi | bvc | bvs => exact withBU_branch ..
  case brk => exact withBU_enter ..
  case noOp => exact withBU_resolveOnly ..
  case tax | tay | txa | tya | tsx | txs | inx | dex | iny | dey | clc | cld | cli | clv | sec | sed | sei => rfl
  case pha | php | pla | plp | rts | rti | nop => rfl

/-- From other stored bits a transition answers what it answers from `s`, but for those two bits. -/
theorem step_withBU {s t : State} (h : step s = .next t) :
    ∃ t', step (withBU s b u) = .next t' ∧ withBU t' b' u' = withBU t b' u' := by
  obtain ⟨hq, rfl⟩ | ⟨hq, hr, rfl⟩ | ⟨hq, hr, rfl⟩ | ⟨hq, hr, he⟩ := step_cases h
  · exact ⟨_, step_reset (withBU s b u) hq, congrArg (withBU · b' u') (performReset_withBU s.beginTransition b u)⟩
  · exact ⟨_, step_interrupt (withBU s b u) hr hq, withBU_interrupt s.beginTransition b u b' u'⟩
  · exact ⟨_, step_nmi (withBU s b u) hr hq, withBU_enter s.beginTransition b u b' u' ..⟩
  · obtain rfl := exec_next he
    refine ⟨_, (step_step (withBU s b u) hr hq).trans (exec_eq_run _ _), ?_⟩
    rw [show (withBU s b u).beginTransition = withBU s.beginTransition b u from rfl, fetch_withBU]
    exact withBU_run ..

end Sys2Proof.Machine
end

section
/-! The statements of the family 10_state.md, settled. -/

namespace Sys2Proof.Machine

open Claims

/-- Settles O17: the two results agree in every choice of B and U, and so in the choice that `t` itself has. -/
theorem storedBreakAndUnusedAreNeverRead : Obligations.StoredBreakAndUnusedAreNeverRead := by
  intro s t b u h
  exact step_withBU b u t.p.b t.p.u h

/-- Settles O8: what a transition does to memory keeps its canonical form, `reset` sets the mark of the first reset and
nothing clears it, and U stays 1. -/
theorem stepKeepsInvariant : Obligations.StepKeepsInvariant := by
  intro s t ⟨hr, hm, hu⟩ h
  have hu' := step_unused_of_unused hu h
  obtain ⟨-, rfl⟩ | ⟨-, hd⟩ := step_does h
  · exact ⟨rfl, State.performReset_wf _ hm, hu'⟩
  · obtain ⟨-, -, hmark⟩ := hd.environment_eq
    exact ⟨hmark.trans hr, hd.mem_wf hm, hu'⟩

/-- Settles O14: every handler keeps to its row of the table, read column by column. -/
theorem flagsChangeOnlyAsListed : Obligations.FlagsChangeOnlyAsListed := by
  intro i s t h
  obtain rfl := exec_next h
  have hl := s.run_leaves i.handler i.operand
  exact ⟨hl.negative_or_zero, hl.overflow, hl.carry, hl.decimal, hl.irqDisable, hl.break_or_unused⟩

/-- Settles O58: every register of State.reset is a literal, and PC comes from plain RAM with nothing listed. -/
theorem resetStateIsLiteral : Obligations.ResetStateIsLiteral :=
  ⟨rfl, rfl, rfl, rfl, rfl, rfl, rfl, rfl, rfl⟩

theorem setZN_eq_withZN (p : Status) (v : Byte) : p.setZN v = withZN p v :=
  Status.ext' (BitVec.msb_eq_getLsbD_last v) rfl rfl rfl rfl rfl rfl rfl

theorem packP_isPacked (b : Bool) (p : Status) : IsPacked (packP b p) b p := by
  simp only [IsPacked, packP, packBits, BitVec.getLsbD_append]
  simp

/-- Settles O56: the model's two status bytes and its SetZN are those of the spec's words, bit by bit. -/
theorem statusByteLayout : Obligations.StatusByteLayout :=
  ⟨setZN_eq_withZN, packP_isPacked, fun _ => rfl⟩

end Sys2Proof.Machine
end

section
/-! SUPPORT. A read by what stands behind its address, and a BUS for any answers (20_memory.md R50 to R53, 00_scope.md
R9). -/

namespace Sys2Proof

open Machine

namespace Machine

variable {s : State} {addr : Word}

theorem State.memRead_of_ne_device (h : s.config.bus.backingOf addr ≠ .device) :
    s.memRead addr = (s.byteAt addr, { s with bus := s.bus ++ [.read addr (s.byteAt addr)] }) := by
  have ha : s.answerAt addr = s.byteAt addr := Bus.answer_of_ne_device _ _ h
  rw [State.memRead, ha, Bus.countRead_of_ne_device _ h]

theorem State.memRead_of_device {v : Byte} (h : s.config.bus.backingOf addr = .device)
    (hv : v = (s.config.bus.answers[s.deviceReads]?).getD (freeAnswer s.deviceReads)) :
    s.memRead addr = (v, { s with bus := s.bus ++ [.read addr v], deviceReads := s.deviceReads + 1 }) := by
  have ha : s.answerAt addr = v := (Bus.answer_of_device _ _ h).trans hv.symm
  rw [State.memRead, ha, Bus.countRead_of_device _ h]

end Machine

/-- Where devices stand behind every address, reads are answered by the list from the next device read on, whatever the
addresses are. -/
theorem Bus.answersTo_of_devices {b : Bus} (hd : ∀ addr, b.backingOf addr = .device) (m : Memory) {n : Nat}
    {addrs : List Word} {bytes : List Byte} (hl : addrs.length = bytes.length) (hb : b.answers.drop n = bytes) :
    b.answersTo m n addrs = bytes := by
  induction addrs generalizing n bytes with
  | nil => exact (List.eq_nil_of_length_eq_zero hl.symm).symm
  | cons addr addrs ih =>
    obtain - | ⟨v, bytes⟩ := bytes
    · simp at hl
    · have hv : b.answers[n]? = some v := by rw [← List.head?_drop, hb, List.head?_cons]
      have hrest : b.answers.drop (n + 1) = bytes := by rw [← List.tail_drop, hb, List.tail_cons]
      rw [Bus.answersTo, Bus.answer_of_device m n (hd addr), hv, Bus.countRead_of_device n (hd addr),
        ih (Nat.succ.inj hl) hrest, Option.getD_some]

/-- Devices behind every address, whose answers from the `n`th device read on are `bytes`. -/
def Bus.devices (n : Nat) (bytes : List Byte) : Bus where
  usual := .device
  regions := []
  answers := List.replicate n 0 ++ bytes

@[simp] theorem Bus.backingOf_devices (n : Nat) (bytes : List Byte) (addr : Word) :
    (Bus.devices n bytes).backingOf addr = .device := rfl

@[simp] theorem Bus.drop_answers_devices (n : Nat) (bytes : List Byte) :
    (Bus.devices n bytes).answers.drop n = bytes :=
  List.drop_left' List.length_replicate

end Sys2Proof
end

section
/-! The statement of the family 20_memory.md, settled. -/

namespace Sys2Proof.Machine

open Claims

/-- Settles O59: reads and writes go by what stands behind the address, and devices everywhere give any answers. -/
theorem environmentAnswersReadsAndTakesWrites : Obligations.EnvironmentAnswersReadsAndTakesWrites := by
  refine ⟨fun _ _ => State.memRead_of_ne_device, fun _ _ _ => State.memRead_of_device, fun s addr v => ?writes,
    fun s addr rest => ⟨s.answers_cons addr rest, s.afterReads_cons addr rest⟩, fun s addrs bytes hl => ?anyAnswers⟩
  case writes => exact ⟨(s.byteAt_memWrite addr · v), rfl, fun h => Bus.store_of_ne_ram s.mem h v⟩
  case anyAnswers =>
    exact ⟨.devices s.deviceReads bytes,
      Bus.answersTo_of_devices (Bus.backingOf_devices _ _) s.mem hl (Bus.drop_answers_devices _ _)⟩

end Sys2Proof.Machine
end

section
/-! SUPPORT. The decoder and the encoder undo each other (30_encoding.md R80 to R91): what an opcode byte and its
operand bytes assemble to has those bytes, and the bytes of a well-formed instruction assemble to it. -/

namespace Sys2Proof

open Laws Laws.OpcodeForm

/-- The laws of the opcode matrix as one: each instruction is what the entry at its own opcode byte becomes. -/
theorem opcodeForm_yields (i : Instr) : Yields (opcodeForm i.opcode) i := by
  cases i
  exacts [
    ldaImm _, ldaZp _, ldaZpx _, ldaAbs _, ldaAbx _, ldaAby _, ldaIzx _, ldaIzy _, ldxImm _, ldxZp _, ldxZpy _,
    ldxAbs _, ldxAby _, ldyImm _, ldyZp _, ldyZpx _, ldyAbs _, ldyAbx _, staZp _, staZpx _, staAbs _, staAbx _,
    staAby _, staIzx _, staIzy _, stxZp _, stxZpy _, stxAbs _, styZp _, styZpx _, styAbs _, andImm _, andZp _,
    andZpx _, andAbs _, andAbx _, andAby _, andIzx _, andIzy _, oraImm _, oraZp _, oraZpx _, oraAbs _, oraAbx _,
    oraAby _, oraIzx _, oraIzy _, eorImm _, eorZp _, eorZpx _, eorAbs _, eorAbx _, eorAby _, eorIzx _, eorIzy _,
    bitZp _, bitAbs _, adcImm _, adcZp _, adcZpx _, adcAbs _, adcAbx _, adcAby _, adcIzx _, adcIzy _, sbcImm _,
    sbcZp _, sbcZpx _, sbcAbs _, sbcAbx _, sbcAby _, sbcIzx _, sbcIzy _, cmpImm _, cmpZp _, cmpZpx _, cmpAbs _,
    cmpAbx _, cmpAby _, cmpIzx _, cmpIzy _, cpxImm _, cpxZp _, cpxAbs _, cpyImm _, cpyZp _, cpyAbs _, incZp _,
    incZpx _, incAbs _, incAbx _, decZp _, decZpx _, decAbs _, decAbx _, aslZp _, aslZpx _, aslAbs _, aslAbx _,
    lsrZp _, lsrZpx _, lsrAbs _, lsrAbx _, rolZp _, rolZpx _, rolAbs _, rolAbx _, rorZp _, rorZpx _, rorAbs _,
    rorAbx _, jmpAbs _, jmpInd _, jsr _, bcc _, bcs _, bne _, beq _, bpl _, bmi _, bvc _, bvs _, ill02 _, ill03 _,
    ill04 _, ill07 _, ill0B _, ill0C _, ill0F _, ill12 _, ill13 _, ill14 _, ill17 _, ill1A _, ill1B _, ill1C _,
    ill1F _, ill22 _, ill23 _, ill27 _, ill2B _, ill2F _, ill32 _, ill33 _, ill34 _, ill37 _, ill3A _, ill3B _,
    ill3C _, ill3F _, ill42 _, ill43 _, ill44 _, ill47 _, ill4B _, ill4F _, ill52 _, ill53 _, ill54 _, ill57 _,
    ill5A _, ill5B _, ill5C _, ill5F _, ill62 _, ill63 _, ill64 _, ill67 _, ill6B _, ill6F _, ill72 _, ill73 _,
    ill74 _, ill77 _, ill7A _, ill7B _, ill7C _, ill7F _, ill80 _, ill82 _, ill83 _, ill87 _, ill89 _, ill8B _,
    ill8F _, ill92 _, ill93 _, ill97 _, ill9B _, ill9C _, ill9E _, ill9F _, illA3 _, illA7 _, illAB _, illAF _,
    illB2 _, illB3 _, illB7 _, illBB _, illBF _, illC2 _, illC3 _, illC7 _, illCB _, illCF _, illD2 _, illD3 _,
    illD4 _, illD7 _, illDA _, illDB _, illDC _, illDF _, illE2 _, illE3 _, illE7 _, illEB _, illEF _, illF2 _,
    illF3 _, illF4 _, illF7 _, illFA _, illFB _, illFC _, illFF _, tax, tay, txa, tya, tsx, txs, pha, php, pla, plp,
    inx, dex, iny, dey, aslA, lsrA, rolA, rorA, rts, clc, cld, cli, clv, sec, sed, sei, brk, nop, rti]

theorem Instr.wf_of_ne_noOp {m : IllegalModes} {i : Instr} (h : i.handler ≠ .noOp) : i.wf m = true := by
  unfold Instr.wf
  split
  · contradiction
  · rfl

theorem Instr.wf_iff_of_noOp {m : IllegalModes} {i : Instr} (h : i.handler = .noOp) :
    i.wf m = true ↔ i.operand.mode = m.modeOf i.opcode := by
  simp [Instr.wf, h]

theorem Mode.operandBytes_le_two (m : Mode) : m.operandBytes ≤ 2 := by
  cases m <;> decide

/-- No instruction has more than three bytes (R80). -/
theorem operandCount_le_two (m : IllegalModes) (opcode : Byte) : operandCount m opcode ≤ 2 := by
  unfold operandCount
  split
  · exact Nat.zero_le 2
  · exact Nat.le_succ 1
  · exact Nat.le_refl 2
  · exact Mode.operandBytes_le_two _

theorem Operand.mode_ofMode (m : Mode) (b1 b2 : Byte) : (Operand.ofMode m b1 b2).mode = m := by
  cases m <;> rfl

theorem Operand.bytes_ofMode (m : Mode) (b1 b2 : Byte) :
    (Operand.ofMode m b1 b2).bytes = [b1, b2].take m.operandBytes := by
  cases m <;> simp [Operand.ofMode, Operand.bytes, MemOperand.bytes, Mode.operandBytes]

/-- An operand is read back from its own bytes, whatever follows them. -/
theorem Operand.ofMode_bytes_append (o : Operand) (rest : List Byte) :
    Operand.ofMode o.mode ((o.bytes ++ rest).getD 0 0) ((o.bytes ++ rest).getD 1 0) = o := by
  cases o with
  | implied => rfl
  | immediate d8 => rfl
  | memory m => cases m <;> simp [Operand.mode, MemOperand.mode, Operand.ofMode, Operand.bytes, MemOperand.bytes]

/-- The first bytes of a list, no more than two and all there, are among the two that `assemble` looks at. -/
theorem take_eq_take_getD {k : Nat} {l : List Byte} (hk : k ≤ 2) (hl : k ≤ l.length) :
    l.take k = [l.getD 0 0, l.getD 1 0].take k := by
  match k, l, hl with
  | 0, _, _ => rfl
  | 1, _ :: _, _ => rfl
  | 2, _ :: _ :: _, _ => rfl

/-- What an opcode byte and its operand bytes assemble to is a well-formed instruction of exactly those bytes. -/
theorem assemble_sound {m : IllegalModes} {opcode : Byte} {operand : List Byte}
    (h : operandCount m opcode ≤ operand.length) :
    encode (assemble m opcode operand) = opcode :: operand.take (operandCount m opcode) ∧
      (assemble m opcode operand).wf m = true := by
  rw [take_eq_take_getD (operandCount_le_two m opcode) h]
  have hs := opcodeForm_sound opcode
  unfold encode assemble operandCount
  generalize operand.getD 0 0 = b1
  generalize operand.getD 1 0 = b2
  cases hf : opcodeForm opcode with
  | f1 i =>
    obtain ⟨hop, ho, hh⟩ := hf ▸ hs
    exact ⟨by simp [hop, ho, Operand.bytes], Instr.wf_of_ne_noOp hh⟩
  | f2 mk =>
    obtain ⟨hop, hb, hh⟩ := (hf ▸ hs) b1
    exact ⟨by simp [hop, hb], Instr.wf_of_ne_noOp hh⟩
  | f3 mk =>
    obtain ⟨hop, hb, hh⟩ := (hf ▸ hs) (wordOf b2 b1)
    exact ⟨by simp [hop, hb], Instr.wf_of_ne_noOp hh⟩
  | unassigned mk =>
    obtain ⟨hop, ho, hh⟩ := (hf ▸ hs) (Operand.ofMode (m.modeOf opcode) b1 b2)
    refine ⟨by simp [hop, ho, Operand.bytes_ofMode], (Instr.wf_iff_of_noOp hh).2 ?_⟩
    rw [ho, hop, Operand.mode_ofMode]

/-- The bytes of a well-formed instruction are as many as the decoder looks for, and assemble to the instruction. -/
theorem assemble_operand_bytes {m : IllegalModes} {i : Instr} (h : i.wf m = true) (rest : List Byte) :
    operandCount m i.opcode = i.operand.bytes.length ∧ assemble m i.opcode (i.operand.bytes ++ rest) = i := by
  have hs := opcodeForm_sound i.opcode
  have hy := opcodeForm_yields i
  unfold operandCount assemble
  generalize opcodeForm i.opcode = f at hs hy
  cases hy with
  | f1 =>
    obtain ⟨-, ho, -⟩ := hs
    exact ⟨by rw [ho]; rfl, rfl⟩
  | @f2 mk d8 =>
    obtain ⟨-, hb, -⟩ := hs d8
    exact ⟨by rw [hb]; rfl, by rw [hb]; rfl⟩
  | @f3 mk a16 =>
    obtain ⟨-, hb, -⟩ := hs a16
    exact ⟨by rw [hb]; rfl, by simp [hb]⟩
  | @unassigned mk o =>
    obtain ⟨-, ho, hh⟩ := hs o
    have hm := (Instr.wf_iff_of_noOp hh).1 h
    rw [ho] at hm
    simp only [ho, ← hm, operand_bytes_length, Operand.ofMode_bytes_append, and_self]

/-- When enough bytes follow the opcode byte, they decode. -/
theorem decode_cons_of_le {m : IllegalModes} {opcode : Byte} {operand : List Byte}
    (h : operandCount m opcode ≤ operand.length) :
    decode m (opcode :: operand) =
      .instr (assemble m opcode operand) (operand.drop (operandCount m opcode)) :=
  if_neg (Nat.not_lt.2 h)

/-- Only bytes of which enough are there decode. -/
theorem decode_eq_instr {m : IllegalModes} {bytes : List Byte} {i : Instr} {rest : List Byte}
    (h : decode m bytes = .instr i rest) :
    ∃ opcode operand, bytes = opcode :: operand ∧ operandCount m opcode ≤ operand.length ∧
      i = assemble m opcode operand ∧ rest = operand.drop (operandCount m opcode) := by
  obtain - | ⟨opcode, operand⟩ := bytes
  · cases h
  · rw [decode] at h
    split at h
    case isTrue => cases h
    case isFalse hl => cases h; exact ⟨opcode, operand, rfl, Nat.not_lt.1 hl, rfl, rfl⟩

/-- Decoding the bytes of a well-formed instruction gives it back, and leaves what follows them. -/
theorem decode_encode_append {m : IllegalModes} {i : Instr} (h : i.wf m = true) (rest : List Byte) :
    decode m (encode i ++ rest) = .instr i rest := by
  obtain ⟨hc, ha⟩ := assemble_operand_bytes h rest
  rw [encode, List.cons_append, decode_cons_of_le (by simp [hc]), ha, hc, List.drop_left]

/-- What bytes decode to is a well-formed instruction that they begin with. -/
theorem encode_append_of_decode {m : IllegalModes} {bytes : List Byte} {i : Instr} {rest : List Byte}
    (h : decode m bytes = .instr i rest) : encode i ++ rest = bytes ∧ i.wf m = true := by
  obtain ⟨opcode, operand, rfl, hl, rfl, rfl⟩ := decode_eq_instr h
  obtain ⟨he, hw⟩ := assemble_sound hl
  exact ⟨by rw [he, List.cons_append, List.take_append_drop], hw⟩

end Sys2Proof
end

section
/-! SUPPORT. After the first reset every transition answers, and the mark of the first reset is never cleared. -/

namespace Sys2Proof.Machine

variable {s t : State}

/-- Each of the four transitions answers a next state (40_step_and_addressing.md R100, 60_exceptions.md R240,
70_reset_and_hazards.md R270). -/
theorem exists_step_next (h : s.resetDone = true) : ∃ t, step s = .next t := by
  cases hq : s.nextRequest with
  | reset => exact ⟨_, step_reset s hq⟩
  | interrupt => exact ⟨_, step_interrupt s h hq⟩
  | nmi => exact ⟨_, step_nmi s h hq⟩
  | step => exact ⟨_, (step_step s h hq).trans (exec_eq_run _ _)⟩

/-- `reset` sets the mark, and the other transitions need it and keep it. -/
theorem resetDone_of_step (h : step s = .next t) : t.resetDone = true := by
  obtain ⟨-, rfl⟩ | ⟨hr, hd⟩ := step_does h
  · rfl
  · obtain ⟨-, -, hmark⟩ := hd.environment_eq
    exact hmark.trans hr

end Sys2Proof.Machine
end

section
/-! The statements of the family 30_encoding.md, settled. -/

namespace Sys2Proof

open Laws Machine

/-- Settles O4: two operand bytes are enough for every opcode byte, and decoding and encoding undo each other, so that
bytes which no instruction begins are the only ones left to reject. -/
theorem everyOpcodeByteDecodes : Obligations.EveryOpcodeByteDecodes := by
  refine fun m => ⟨fun b0 b1 b2 => ?decodes, fun bytes => ⟨fun h i hw rest he => ?rejected, fun h => ?noInstr⟩⟩
  case decodes =>
    have hd := decode_cons_of_le (operand := [b1, b2]) (operandCount_le_two m b0)
    obtain ⟨he, -⟩ := encode_append_of_decode hd
    exact ⟨_, _, hd, List.head_eq_of_cons_eq he, encode_length _⟩
  case rejected =>
    rw [← he, decode_encode_append hw] at h
    cases h
  case noInstr =>
    cases hd : decode m bytes with
    | rejected r => cases r; rfl
    | instr i rest =>
      obtain ⟨he, hw⟩ := encode_append_of_decode hd
      exact absurd he (h i hw rest)

/-- Settles O6: each transition answers, and what it answers bears the mark of the first reset. -/
theorem stepAlwaysAnswers : Obligations.StepAlwaysAnswers := by
  intro s h
  obtain ⟨t, ht⟩ := exists_step_next h
  exact ⟨t, ht, resetDone_of_step ht⟩

end Sys2Proof
end

section
/-! SUPPORT. The fetch of the instruction that the bytes at PC decode to (40_step_and_addressing.md R100, R101). -/

namespace Sys2Proof

/-- An instruction is assembled from no more bytes than it has. -/
theorem assemble_take {m : IllegalModes} {opcode : Byte} {operand : List Byte}
    (h : operandCount m opcode ≤ operand.length) :
    assemble m opcode (operand.take (operandCount m opcode)) = assemble m opcode operand := by
  obtain ⟨he, hw⟩ := assemble_sound h
  obtain ⟨hop, hb⟩ := List.cons.inj he
  obtain ⟨-, ha⟩ := assemble_operand_bytes hw []
  rwa [List.append_nil, hop, hb] at ha

/-- The operand of decoded bytes is the one its mode makes of the two bytes after the opcode byte (R101). -/
theorem operand_eq_ofMode_of_decode {m : IllegalModes} {op b1 b2 : Byte} {i : Instr} {rest : List Byte}
    (h : decode m [op, b1, b2] = .instr i rest) : i.operand = Operand.ofMode i.operand.mode b1 b2 := by
  obtain ⟨he, -⟩ := encode_append_of_decode h
  have hb : i.operand.bytes ++ rest = [b1, b2] := (List.cons.inj he).2
  have ho := Operand.ofMode_bytes_append i.operand rest
  rw [hb] at ho
  exact ho.symm

namespace Machine

open Claims

variable {s : State}

theorem State.answers_take (s : State) (k : Nat) (l : List Word) : s.answers (l.take k) = (s.answers l).take k := by
  induction l generalizing s k with
  | nil => simp
  | cons addr l ih =>
    cases k with
    | zero => simp
    | succ k => rw [List.take_succ_cons, State.answers_cons, State.answers_cons, List.take_succ_cons, ih]

theorem addrsFrom_eq_map_range (a : Word) (k : Nat) :
    addrsFrom a k = (List.range k).map fun j => a + BitVec.ofNat 16 j := by
  induction k generalizing a with
  | zero => rfl
  | succ k ih =>
    simpa [addrsFrom, ih, List.range_succ_eq_map] using fun j _ => add_one_add_ofNat a j

/-- The bytes of an instruction are at the front of the three that the environment answers at PC. -/
theorem answers_addrsFrom_pc (s : State) {k : Nat} (hk : k ≤ 3) : s.answers (addrsFrom s.pc k) = (window s).take k := by
  rw [window, ← s.answers_take]
  congr 1
  rw [addrsFrom_eq_map_range]
  interval_cases k <;> simp [List.range_succ]

/-- What the bytes at PC decode to is the instruction fetched, and the fetch reads its bytes and no others. -/
theorem fetch_of_decode {i : Instr} {rest : List Byte}
    (h : decode s.config.illegalModes (window s) = .instr i rest) :
    s.fetch = (i, { s.afterReads (instrAddrs s i) with pc := s.pc + BitVec.ofNat 16 (encode i).length }) := by
  obtain ⟨opcode, operand, hw, hl, rfl, -⟩ := decode_eq_instr h
  have hop : s.answerAt s.pc = opcode := List.head_eq_of_cons_eq hw
  have hk := operandCount_le_two s.config.illegalModes opcode
  obtain ⟨he, -⟩ := assemble_sound hl
  have hlen : (encode (assemble s.config.illegalModes opcode operand)).length =
      operandCount s.config.illegalModes opcode + 1 := by simp [he, hl]
  rw [s.fetch_eq rfl, hop, answers_addrsFrom_pc s (by omega), hw, List.take_succ_cons, List.drop_one, List.tail_cons,
    assemble_take hl, instrAddrs, hlen, addrsFrom_eq_map_range]

/-- The state past the bytes of the instruction is the one its handler starts in. -/
theorem fetch_beginTransition {i : Instr} {rest : List Byte}
    (h : decode s.config.illegalModes (window s) = .instr i rest) : s.beginTransition.fetch = (i, fetched s i) :=
  fetch_of_decode (s := s.beginTransition) h

/-- What a fetch leaves, by the mode of the instruction fetched: its operand is made of the bytes after the opcode byte,
PC is past them, and A, X and Y have not changed (R100, R101). -/
theorem fetch_of_window {i : Instr} {u : State} {op b1 b2 : Byte} {mode : Mode} (hf : s.fetch = (i, u))
    (hw : window s = [op, b1, b2]) (hm : i.operand.mode = mode) :
    i.operand = Operand.ofMode mode b1 b2 ∧ u.pc = s.pc + BitVec.ofNat 16 (1 + mode.operandBytes) ∧
      u.a = s.a ∧ u.x = s.x ∧ u.y = s.y := by
  have hd := decode_cons_of_le (operand := [b1, b2]) (operandCount_le_two s.config.illegalModes op)
  obtain ⟨rfl, rfl⟩ := Prod.mk.inj (hf.symm.trans (fetch_of_decode (hw ▸ hd)))
  subst hm
  exact ⟨operand_eq_ofMode_of_decode hd, by rw [← Laws.encode_length], rfl, rfl, rfl⟩

end Machine
end Sys2Proof
end

section
/-! SUPPORT. The bus transactions of every handler, without their values (40_step_and_addressing.md R119). -/

namespace Sys2Proof.Machine

open Claims

variable (s : State)

@[simp] theorem State.onMemory_implied (f : MemOperand → State) : s.onMemory .implied f = s := rfl
@[simp] theorem State.onMemory_immediate (d8 : Byte) (f : MemOperand → State) : s.onMemory (.immediate d8) f = s := rfl
@[simp] theorem State.onMemory_memory (m : MemOperand) (f : MemOperand → State) : s.onMemory (.memory m) f = f m := rfl

@[simp] theorem State.operandAddrs_implied : s.operandAddrs .implied = [] := rfl
@[simp] theorem State.operandAddrs_immediate (d8 : Byte) : s.operandAddrs (.immediate d8) = [] := rfl
@[simp] theorem State.operandAddrs_memory (m : MemOperand) :
    s.operandAddrs (.memory m) = s.pointerAddrs m ++ [s.effectiveAddress m] := rfl

theorem pointerAddrs_eq (m : MemOperand) : Claims.pointerAddrs s m = s.pointerAddrs m := by
  cases m <;> rfl

@[simp] theorem resolverAccesses_implied : resolverAccesses s .implied = [] := rfl
@[simp] theorem resolverAccesses_immediate (d8 : Byte) : resolverAccesses s (.immediate d8) = [] := rfl
@[simp] theorem resolverAccesses_memory (m : MemOperand) :
    resolverAccesses s (.memory m) = (s.pointerAddrs m).map .read := by
  rw [resolverAccesses, pointerAddrs_eq]

/-- The resolver of an instruction makes no access where its handler has no memory form. -/
theorem resolverAccesses_of_noMemoryForm {i : Instr} (h : Handler.noMemoryForm i.handler = true) :
    resolverAccesses s i.operand = [] := by
  cases ho : i.operand with
  | implied => rfl
  | immediate _ => rfl
  | memory m => exact absurd ho (operand_ne_memory i h m)

@[simp] theorem access_read (addr : Word) (v : Byte) : access (.read addr v) = .read addr := rfl
@[simp] theorem access_write (addr : Word) (v : Byte) : access (.write addr v) = .write addr := rfl

/-- Reads are recorded with the addresses read, in their order. -/
@[simp] theorem zipWith_read_answers (l : List Word) :
    List.zipWith (fun addr _ => Access.read addr) l (s.answers l) = l.map .read := by
  induction l generalizing s with
  | nil => rfl
  | cons addr l ih => simp [State.answers_cons, ih]

/-- BRK makes the three pushes of its entry and reads the two bytes of its vector (R227, 60_exceptions.md R242). -/
theorem map_access_brk :
    s.brk.bus.map access = s.bus.map access ++
      [.write (stackAddr s.sp), .write (stackAddr (s.sp - 1)), .write (stackAddr (s.sp - 2)),
        .read 0xFFFE, .read 0xFFFF] := by
  rw [State.brk, State.enter_eq, State.entryPushes_eq]
  simp [irqVector]

/-- Every handler makes the bus transactions of its row: the pointer reads, the operand fetch, its writes and then its
reads. -/
theorem map_access_run (i : Instr) :
    (s.run i.handler i.operand).bus.map access =
      s.bus.map access ++ resolverAccesses s i.operand ++ operandAccesses s i ++ (storeAddrs s i).map .write ++
        (loadAddrs s i).map .read := by
  unfold operandAccesses storeAddrs loadAddrs
  cases hh : i.handler
  case lda | ldx | ldy | and | ora | eor | bit | adc | sbc | cmp | cpx | cpy =>
    cases i.operand <;>
      simp [State.run, State.lda_eq, State.ldx_eq, State.ldy_eq, State.logic_eq, State.bitTest_eq, State.adc_eq,
        State.sbc_eq, State.compare_eq]
  case sta | stx | sty => cases i.operand <;> simp [State.run, State.store_eq]
  case inc | dec => cases i.operand <;> simp [State.run, State.modify_eq]
  case asl | lsr | rol | ror =>
    cases i.operand <;> simp [State.run, shiftOperand, State.shift_accumulator_eq, State.shift_memory_eq]
  case jmp => cases i.operand <;> simp [State.run, State.jump_eq]
  case noOp => cases i.operand <;> simp [State.run, State.resolveOnly_eq]
  case jsr =>
    obtain ⟨a16, ho⟩ := jsr_operand i hh
    simp [ho, State.run, State.jsr_eq, State.pushWord_eq]
  case pha | php | pla | plp | rts | rti | brk =>
    rw [resolverAccesses_of_noMemoryForm s (hh ▸ rfl)]
    simp [State.run, State.push_eq, State.pla_eq, State.plp_eq, State.rts_eq, State.leave_eq, map_access_brk]
  case tax | tay | txa | tya | tsx | txs | inx | dex | iny | dey | clc | cld | cli | clv | sec | sed | sei | nop =>
    rw [resolverAccesses_of_noMemoryForm s (hh ▸ rfl)]
    simp [State.run]
  case bcc | bcs | bne | beq | bpl | bmi | bvc | bvs =>
    rw [resolverAccesses_of_noMemoryForm s (hh ▸ rfl)]
    simp [State.run, State.branch_eq]

/-- When `step` is the transition asked for and it answers, the instruction at PC has run. -/
theorem eq_run_of_step {t : State} {i : Instr} {rest : List Byte} (hq : s.nextRequest = .step)
    (hd : decode s.config.illegalModes (window s) = .instr i rest) (h : step s = .next t) :
    t = (fetched s i).run i.handler i.operand := by
  obtain ⟨hr, -⟩ | ⟨hr, -⟩ | ⟨hr, -⟩ | ⟨-, -, he⟩ := step_cases h
  · exact absurd (hq.symm.trans hr) (by decide)
  · exact absurd (hq.symm.trans hr) (by decide)
  · exact absurd (hq.symm.trans hr) (by decide)
  · rw [fetch_beginTransition hd] at he
    exact exec_next he

end Sys2Proof.Machine
end

section
/-! SUPPORT. Operands by mode: the direct modes read nothing past the operand bytes, the indirect modes their pointer
(40_step_and_addressing.md R104 to R112, R114). -/

namespace Sys2Proof.Machine

open Claims

variable {u : State}

/-- In every mode the resolver reads its pointer addresses, and the operand fetch the effective address after them. -/
theorem readsThroughPointer {m : MemOperand} {l : List Word} {ea : Nat} (hl : u.pointerAddrs m = l)
    (hea : (u.effectiveAddress m).toNat = ea) : ReadsThroughPointer u m l ea := by
  subst hl
  refine ⟨hea, State.resolveOnly_eq .., ?_⟩
  rw [State.fetchOperand_eq, State.operandValue_memory, State.operandAddrs_memory, State.afterReads_append,
    State.answerAt_afterReads]

/-- A mode without a pointer makes no access but that of its operand fetch. -/
theorem reads_at_effectiveAddress {m : MemOperand} {ea : Word} (hl : u.pointerAddrs m = [])
    (hea : (u.effectiveAddress m).toNat = ea.toNat) :
    u.effectiveAddress m = ea ∧ u.resolveOnly (.memory m) = u ∧
      u.fetchOperand (.memory m) = (u.answerAt ea, u.afterReads [ea]) := by
  obtain rfl := BitVec.eq_of_toNat_eq hea
  obtain ⟨-, hr, hf⟩ := readsThroughPointer hl rfl
  rw [State.afterReads_nil] at hr hf
  exact ⟨rfl, hr, hf⟩

/-- A word read is the two answers, the low byte first. -/
theorem readWord_toNat {z z2 : Word} {lo hi : Byte} (h : u.answers [z, z2] = [lo, hi]) :
    (u.readWord z z2).1.toNat = 256 * hi.toNat + lo.toNat := by
  obtain ⟨hlo, hrest⟩ := List.cons.inj h
  rw [← hlo, ← List.head_eq_of_cons_eq hrest]
  exact wordOf_toNat ..

/-- The next address in the page of `w` is one up, or 255 down from the last of the page (R110). -/
theorem samePageNext_eq (w : Word) : samePageNext w = if w.toNat % 256 = 255 then w - 255 else w + 1 := by
  have := w.isLt
  apply BitVec.eq_of_toNat_eq
  rw [samePageNext, wordOf_toNat, hiByte_toNat, BitVec.toNat_add, loByte_toNat]
  split <;> bv_omega

theorem eq_wordOf {w : Word} {hi lo : Byte} (h : w.toNat = 256 * hi.toNat + lo.toNat) : w = wordOf hi lo :=
  BitVec.eq_of_toNat_eq (h.trans (wordOf_toNat hi lo).symm)

theorem zext16_eq {b : Byte} {w : Word} (h : w.toNat = b.toNat) : zext16 b = w :=
  BitVec.eq_of_toNat_eq ((zext16_toNat b).trans h.symm)

end Sys2Proof.Machine
end

section
/-! The statements of the family 40_step_and_addressing.md, settled. -/

namespace Sys2Proof.Machine

open Claims

/-- Settles O11: the handler starts with the reads of the instruction's bytes in the record, and adds its own row. -/
theorem busTransactionsOfStep : Obligations.BusTransactionsOfStep := by
  intro s t i rest hq hd h
  have hf : (fetched s i).bus.map access = (instrAddrs s i).map .read := by simp [fetched]
  rw [eq_run_of_step s hq hd h, map_access_run, hf]

/-- Settles O19: neither mode has anything for the resolver to read. -/
theorem impliedAndImmediateOperands : Obligations.ImpliedAndImmediateOperands := by
  refine fun s i u op b1 b2 hf hw => ⟨fun hm => ?implied, fun hm => ?immediate⟩
  all_goals obtain ⟨ho, hpc, ha, -, -⟩ := fetch_of_window hf hw hm; rw [ho]
  case implied => exact ⟨hpc, congrArg (·, u) ha, rfl⟩
  case immediate => exact ⟨hpc, rfl, rfl, rfl⟩

/-- Settles O20: the effective address is the operand byte, or its sum with an index, in page 0. -/
theorem zeroPageModes : Obligations.ZeroPageModes := by
  refine fun s i u op d8 b2 ea hf hw => ⟨fun hm hea => ?plain, fun hm hea => ?indexedX, fun hm hea => ?indexedY⟩
  all_goals
    obtain ⟨ho, hpc, -, hx, hy⟩ := fetch_of_window hf hw hm
    rw [ho]
    refine ⟨rfl, hpc, reads_at_effectiveAddress rfl ?_⟩
    rw [State.effectiveAddress_eq, zext16_toNat, hea]
  case indexedX => rw [BitVec.toNat_add, hx]
  case indexedY => rw [BitVec.toNat_add, hy]

/-- Settles O21: the effective address is the operand word, or its sum with an index. -/
theorem absoluteModes : Obligations.AbsoluteModes := by
  intro s i u op lo hi a16 ea hf hw ha
  obtain rfl := eq_wordOf ha
  refine ⟨fun hm hea => ?plain, fun hm hea => ?indexedX, fun hm hea => ?indexedY⟩
  all_goals
    obtain ⟨ho, hpc, -, hx, hy⟩ := fetch_of_window hf hw hm
    rw [ho]
    refine ⟨rfl, hpc, reads_at_effectiveAddress rfl ?_⟩
    rw [State.effectiveAddress_eq, hea]
  case indexedX => rw [BitVec.toNat_add, zext16_toNat, hx]
  case indexedY => rw [BitVec.toNat_add, zext16_toNat, hy]

/-- Settles O22: the pointer addresses are the resolver's, and the effective address is the word answered there. -/
theorem pointerModes : Obligations.PointerModes := by
  intro s i u op b1 b2 w hf hw hword
  obtain rfl := eq_wordOf hword
  refine ⟨fun hm => ?indirect, fun hm => ?indirectX, fun hm => ?indirectY⟩
  all_goals
    obtain ⟨ho, hpc, -, hx, hy⟩ := fetch_of_window hf hw hm
    refine ⟨ho, hpc, ?_⟩
  case indirect =>
    intro w2 lo hi h2 ha
    obtain rfl := h2.trans (samePageNext_eq _).symm
    exact readsThroughPointer rfl (readWord_toNat ha)
  case indirectX =>
    intro z z2 lo hi hz hz2 ha
    obtain rfl : zext16 (b1 + u.x) = z := zext16_eq (by rw [hz, BitVec.toNat_add, hx])
    obtain rfl : zext16 (b1 + u.x + 1) = z2 := zext16_eq (by rw [hz2, zext16_toNat, BitVec.toNat_add]; rfl)
    exact readsThroughPointer rfl (readWord_toNat ha)
  case indirectY =>
    intro z z2 lo hi hz hz2 ha
    obtain rfl : zext16 b1 = z := zext16_eq hz
    obtain rfl : zext16 (b1 + 1) = z2 := zext16_eq (by rw [hz2, BitVec.toNat_add]; rfl)
    refine readsThroughPointer rfl ?_
    have hea : u.effectiveAddress (.indirectY b1) = (u.readWord (zext16 b1) (zext16 (b1 + 1))).1 + zext16 u.y := rfl
    rw [hea, BitVec.toNat_add, readWord_toNat ha, zext16_toNat, hy]

/-- Settles O57: each is what the push or the pull does, said as one record. -/
theorem stackPrimitives : Obligations.StackPrimitives :=
  ⟨stackAddr_toNat, fun s v => ⟨s.byteAt_push v, s.push_eq v⟩, fun s _ hv => hv ▸ s.pull_eq, fun _ _ => rfl,
    fun _ => rfl⟩

end Sys2Proof.Machine
end

section
/-! SUPPORT. What an instruction answers, from what its handler does, in the words of the statements; then every load
and every store at once (41_load_store_transfer.md R130 to R135). -/

namespace Sys2Proof.Machine

open Claims

variable {i : Instr} {s u : State}

/-- An instruction whose handler leaves `u` with the flags of SetZN, and any record of reads, answers that. -/
theorem answers_withZN {v : Byte} {bus : List BusEvent} {n : Nat}
    (h : s.run i.handler i.operand = { u with p := s.p.setZN v, bus := bus, deviceReads := n }) :
    Answers i s { u with p := withZN s.p v } :=
  ⟨bus, n, by rw [exec_eq_run, h, setZN_eq_withZN]⟩

theorem loadsTo_a (h : i.handler = .lda) : LoadsTo (fun s v => { s with a := v }) i (encode i) i.operand :=
  ⟨rfl, fun s => answers_withZN (u := s.setA (s.operandValue i.operand)) (by rw [h]; exact s.lda_eq _)⟩

theorem loadsTo_x (h : i.handler = .ldx) : LoadsTo (fun s v => { s with x := v }) i (encode i) i.operand :=
  ⟨rfl, fun s => answers_withZN (u := s.setX (s.operandValue i.operand)) (by rw [h]; exact s.ldx_eq _)⟩

theorem loadsTo_y (h : i.handler = .ldy) : LoadsTo (fun s v => { s with y := v }) i (encode i) i.operand :=
  ⟨rfl, fun s => answers_withZN (u := s.setY (s.operandValue i.operand)) (by rw [h]; exact s.ldy_eq _)⟩

/-- A store makes the pointer reads of its mode and then presents the byte at the effective address. -/
theorem store_readsThenWrites (s : State) (m : MemOperand) (v : Byte) :
    ReadsThenWrites s (s.store m v) (pointerAddrs s m) (s.effectiveAddress m) v := by
  rw [State.store_eq, pointerAddrs_eq]
  exact ⟨rfl, rfl, fun b => State.byteAt_memWrite _ _ b v⟩

/-- A store changes nothing but memory and the model's record of bus transactions. -/
theorem store_frame (s : State) (m : MemOperand) (v : Byte) :
    s.store m v = { s with
      mem := (s.store m v).mem, bus := (s.store m v).bus, deviceReads := (s.store m v).deviceReads } := by
  rw [State.store_eq]
  rfl

/-- An instruction whose handler stores a register is a store of that register. -/
theorem stores_of_run {reg : State → Byte} {m : MemOperand}
    (h : ∀ s : State, s.run i.handler i.operand = s.store m (reg s)) : Stores reg i (encode i) m :=
  ⟨rfl, fun s => ⟨s.store m (reg s), by rw [exec_eq_run, h], store_readsThenWrites s m _, store_frame s m _⟩⟩

end Sys2Proof.Machine
end

section
/-! The statements of the family 41_load_store_transfer.md, settled. -/

namespace Sys2Proof.Machine

open Claims

/-- Settles O23: a form loads the register of its handler, and its bytes and operand are those of the dispatch table. -/
theorem loadsWriteRegisterAndFlags : Obligations.LoadsWriteRegisterAndFlags :=
  fun _ _ => ⟨loadsTo_a rfl, loadsTo_a rfl, loadsTo_a rfl, loadsTo_a rfl, loadsTo_a rfl, loadsTo_a rfl, loadsTo_a rfl,
    loadsTo_a rfl, loadsTo_x rfl, loadsTo_x rfl, loadsTo_x rfl, loadsTo_x rfl, loadsTo_x rfl, loadsTo_y rfl,
    loadsTo_y rfl, loadsTo_y rfl, loadsTo_y rfl, loadsTo_y rfl⟩

/-- Settles O24: the handler of each form stores its register through the form's memory operand. -/
theorem storesWriteMemoryOnly : Obligations.StoresWriteMemoryOnly := by
  intro d8 a16
  refine ⟨?_, ?_, ?_, ?_, ?_, ?_, ?_, ?_, ?_, ?_, ?_, ?_, ?_⟩
  all_goals exact stores_of_run fun _ => rfl

/-- Settles O25: five transfers write a register and set Z and N from it; TXS writes SP alone. -/
theorem transfersCopyRegister : Obligations.TransfersCopyRegister :=
  ⟨fun s => answers_withZN (u := s.setX s.a) rfl, rfl, fun s => answers_withZN (u := s.setY s.a) rfl, rfl,
    fun s => answers_withZN (u := s.setA s.x) rfl, rfl, fun s => answers_withZN (u := s.setA s.y) rfl, rfl,
    fun s => answers_withZN (u := s.setX s.sp) rfl, rfl, fun s => ⟨s.bus, s.deviceReads, rfl⟩, rfl⟩

end Sys2Proof.Machine
end

section
/-! The statements of the family 42_stack.md, settled. -/

namespace Sys2Proof.Machine

open Claims

/-- An instruction whose handler pushes `v` answers the pushed state: `v` at the stack address of SP, SP one lower, and
no other bus transaction (R116). -/
theorem pushes_of_run {i : Instr} {s : State} {v : Byte} (h : s.run i.handler i.operand = s.push v) :
    ∃ t, exec i s = .next t ∧ WritesByte s t (stackAddr s.sp) v ∧
      t = { s with sp := s.sp - 1, mem := t.mem, bus := s.bus ++ [.write (stackAddr s.sp) v] } :=
  ⟨s.push v, by rw [exec_eq_run, h], s.byteAt_push v, s.push_eq v⟩

/-- An instruction whose handler leaves `t`, with any record of reads, answers `t`. -/
theorem answers_of_run {i : Instr} {s t : State} {bus : List BusEvent} {n : Nat}
    (h : s.run i.handler i.operand = { t with bus := bus, deviceReads := n }) : Answers i s t :=
  ⟨bus, n, by rw [exec_eq_run, h]⟩

/-- Settles O26: both handlers are one push, PHA of A and PHP of the status byte with bit 4 set. -/
theorem pushesStoreAtStackPointer : Obligations.PushesStoreAtStackPointer := by
  refine ⟨rfl, rfl, fun s => pushes_of_run rfl, fun s => ?php⟩
  case php =>
    obtain ⟨t, he, hw, ht⟩ := pushes_of_run (i := .php) (s := s) (v := packP true s.p) rfl
    exact ⟨t, packP true s.p, he, packP_isPacked true s.p, hw, ht⟩

/-- Settles O27: both handlers are one pull, into A with SetZN or into the status. -/
theorem pullsLoadAboveStackPointer : Obligations.PullsLoadAboveStackPointer := by
  refine ⟨rfl, rfl, fun s v hv => ?_⟩
  subst hv
  constructor
  case left =>
    exact answers_withZN (u := { s with a := s.answerAt (stackAddr (s.sp + 1)), sp := s.sp + 1 }) s.pla_eq
  case right =>
    exact answers_of_run s.plp_eq

end Sys2Proof.Machine
end

section
/-! SUPPORT. What the arithmetic and compare results are as signed and unsigned numbers, and the flags they give
(43_logic_arith_compare.md R164 to R168, R172). -/

namespace Sys2Proof.Machine

open Claims

theorem and_signBit_ne_zero (v : Byte) : (v &&& 0x80 != 0) = v.msb := by
  revert v
  decide

/-- Two's complement, by the value of the byte alone (92_eei_decisions.md D24). -/
theorem toInt_eq_ite (v : Byte) : v.toInt = if 128 ≤ v.toNat then (v.toNat : Int) - 256 else v.toNat := by
  rw [BitVec.toInt_eq_toNat_cond]
  split <;> split <;> omega

/-- V is set exactly when the sum of the signed values is no signed byte (R164): the two operands have one sign and the
result the other. -/
theorem addWithCarry_overflow (a m : Byte) (c : Bool) :
    (addWithCarry a m c).overflow = true ↔
      a.toInt + m.toInt + c.toNat < -128 ∨ 127 < a.toInt + m.toInt + c.toNat := by
  have hr := congrArg BitVec.toNat (addWithCarry_value a m c)
  rw [BitVec.toNat_ofNat] at hr
  have hv : (addWithCarry a m c).overflow =
      ((a.msb ^^ (addWithCarry a m c).value.msb) && (m.msb ^^ (addWithCarry a m c).value.msb)) := by
    rw [← BitVec.msb_xor, ← BitVec.msb_xor, ← BitVec.msb_and, ← and_signBit_ne_zero]
    rfl
  have := a.isLt
  have := m.isLt
  have := c.toNat_le
  rw [hv, toInt_eq_ite, toInt_eq_ite]
  simp only [BitVec.msb_eq_decide, hr, Bool.and_eq_true, bne_iff_ne, ne_eq, decide_eq_decide]
  omega

theorem complement_toInt (m : Byte) : (m ^^^ 0xFF).toInt = -1 - m.toInt := by
  have := m.isLt
  rw [toInt_eq_ite, toInt_eq_ite, show m ^^^ 0xFF = m ^^^ 0xFF#8 from rfl, complement_toNat]
  split <;> split <;> omega

/-- The difference with the borrow is the value of the addition of the complement (R165). -/
theorem subWithCarry_value (a m : Byte) (c : Bool) :
    (subWithCarry a m c).value = BitVec.ofInt 8 ((a.toNat : Int) - m.toNat - (1 - c.toNat)) := by
  have := m.isLt
  apply BitVec.eq_of_toNat_eq
  rw [subWithCarry_toNat, BitVec.toNat_ofInt]
  omega

theorem subWithCarry_overflow (a m : Byte) (c : Bool) :
    (subWithCarry a m c).overflow = true ↔
      a.toInt - m.toInt - (1 - (c.toNat : Int)) < -128 ∨ 127 < a.toInt - m.toInt - (1 - (c.toNat : Int)) := by
  rw [subWithCarry, addWithCarry_overflow, complement_toInt]
  omega

/-- What ADC adds, SBC takes off again, when its borrow is the carry that was added (R172). -/
theorem subWithCarry_addWithCarry (a m : Byte) (c : Bool) :
    (subWithCarry (addWithCarry a m c).value m (!c)).value = a := by
  have := a.isLt
  have := m.isLt
  apply BitVec.eq_of_toNat_eq
  rw [subWithCarry_toNat, addWithCarry_value, BitVec.toNat_ofNat]
  cases c <;> simp only [Bool.toNat_true, Bool.toNat_false, Bool.not_true, Bool.not_false] <;> omega

theorem Status.ofAdd_eq (p : Status) (r : AddResult) :
    p.ofAdd r = { withZN p r.value with c := r.carry, v := r.overflow } := by
  rw [Status.ofAdd, setZN_eq_withZN]
  rfl

/-- The difference is 0 exactly for equal bytes, and its sign bit is that of the difference modulo 256 (R166). -/
theorem Status.compare_eq (p : Status) (r m : Byte) :
    p.compare r m = { p with
      c := decide (m.toNat ≤ r.toNat)
      z := decide (r = m)
      n := decide (128 ≤ (r.toNat + 256 - m.toNat) % 256) } := by
  have hn : (r - m).msb = decide (128 ≤ (r.toNat + 256 - m.toNat) % 256) := by
    have := m.isLt
    rw [BitVec.msb_eq_decide, BitVec.toNat_sub, decide_eq_decide]
    omega
  have hz : (r - m == 0) = decide (r = m) := by
    rw [beq_eq_decide, decide_eq_decide]
    exact sub_eq_zero
  rw [Status.compare, Status.setZN, hn, hz]
  rfl

end Sys2Proof.Machine
end

section
/-! SUPPORT. What a logic, arithmetic or compare instruction answers, from its handler. -/

namespace Sys2Proof.Machine

open Claims

variable {i : Instr}

theorem combines_of_run {f : Byte → Byte → Byte}
    (h : ∀ s : State, s.run i.handler i.operand = s.logic (f s.a) i.operand) : Combines f i (encode i) i.operand :=
  ⟨rfl, fun s => answers_withZN (u := s.setA (f s.a (s.operandValue i.operand))) ((h s).trans (s.logic_eq _ _))⟩

theorem testsBits_of_handler (h : i.handler = .bit) : TestsBits i (encode i) i.operand :=
  ⟨rfl, fun s => answers_of_run (by rw [h]; exact s.bitTest_eq _)⟩

theorem compares_of_run {reg : State → Byte}
    (h : ∀ s : State, s.run i.handler i.operand = s.compare (reg s) i.operand) : Compares reg i (encode i) i.operand :=
  ⟨rfl, fun s => answers_of_run (by rw [h, State.compare_eq, Status.compare_eq]; rfl)⟩

/-- An addition answers its value, with the four flags of the addition. -/
theorem answers_ofAdd {s : State} {r : AddResult} {bus : List BusEvent} {n : Nat}
    (h : s.run i.handler i.operand =
      { s with a := r.value, p := s.p.ofAdd r, bus := bus, deviceReads := n }) :
    Answers i s { s with a := r.value, p := { withZN s.p r.value with c := r.carry, v := r.overflow } } :=
  answers_of_run (by rw [h, Status.ofAdd_eq])

theorem adds_of_handler (h : i.handler = .adc) : Adds i (encode i) i.operand := by
  refine ⟨rfl, fun s m hm sum hsum r hr => ?_⟩
  subst hm hsum
  obtain rfl := hr.trans (addWithCarry_value ..).symm
  rw [← addWithCarry_carry]
  exact ⟨answers_ofAdd (by rw [h]; exact s.adc_eq _), addWithCarry_overflow ..⟩

/-- No borrow occurs exactly when the difference is not negative (R165). -/
theorem subtracts_of_handler (h : i.handler = .sbc) : Subtracts i (encode i) i.operand := by
  refine ⟨rfl, fun s m hm diff hdiff r hr => ?_⟩
  subst hm hdiff
  obtain rfl := hr.trans (subWithCarry_value ..).symm
  have hc : decide (0 ≤ (s.a.toNat : Int) - (s.operandValue i.operand).toNat - (1 - s.p.c.toNat)) =
      (subWithCarry s.a (s.operandValue i.operand) s.p.c).carry := by
    rw [subWithCarry_carry, decide_eq_decide]
    omega
  rw [hc]
  exact ⟨answers_ofAdd (by rw [h]; exact s.sbc_eq _), subWithCarry_overflow ..⟩

end Sys2Proof.Machine
end

section
/-! SUPPORT. The decimal flag reaches nothing but a pushed status byte (R171). -/

namespace Sys2Proof.Machine

open Claims

variable (s : State)

/-! No addressing mode reads the status. -/

@[simp] theorem pointerAddrs_setP (q : Status) (m : MemOperand) : (s.setP q).pointerAddrs m = s.pointerAddrs m := by
  cases m <;> rfl

@[simp] theorem effectiveAddress_setP (q : Status) (m : MemOperand) :
    (s.setP q).effectiveAddress m = s.effectiveAddress m := by
  cases m <;> rfl

@[simp] theorem operandAddrs_setP (q : Status) (o : Operand) : (s.setP q).operandAddrs o = s.operandAddrs o := by
  cases o <;> simp

@[simp] theorem operandValue_setP (q : Status) (o : Operand) : (s.setP q).operandValue o = s.operandValue o := by
  cases o with
  | implied => rfl
  | immediate _ => rfl
  | memory m =>
    rw [State.operandValue_memory, State.operandValue_memory, pointerAddrs_setP, effectiveAddress_setP]
    rfl

theorem withD_eq_setP (d : Bool) : withD s d = s.setP { s.p with d := d } := rfl

/-- No handler but those of PHP and BRK, which push the status, has a result that depends on the decimal flag; CLD, SED,
PLP and RTI overwrite it, the others hand it on. -/
theorem withD_run {h : Handler} (hh : h ∉ [Handler.php, .brk]) (d d' : Bool) (o : Operand) :
    withD ((withD s d).run h o) d' = withD (s.run h o) d' := by
  rw [withD_eq_setP s d]
  cases h
  case php | brk => exact absurd (by decide) hh
  case lda | ldx | ldy | and | ora | eor | bit | adc | sbc | cmp | cpx | cpy =>
    simp only [State.run, State.lda_eq, State.ldx_eq, State.ldy_eq, State.logic_eq, State.bitTest_eq, State.adc_eq,
      State.sbc_eq, State.compare_eq, operandAddrs_setP, operandValue_setP]
    rfl
  case sta | stx | sty | inc | dec | asl | lsr | rol | ror | jmp | jsr =>
    cases o with
    | implied => rfl
    | immediate _ => rfl
    | memory m =>
      simp only [State.run, State.onMemory_memory, State.store_eq, State.modify_eq, shiftOperand, State.shift_memory_eq,
        State.jump_eq, State.jsr_eq, pointerAddrs_setP, effectiveAddress_setP, operandAddrs_setP, operandValue_setP]
      rfl
  case noOp =>
    simp only [State.run, State.resolveOnly_eq, pointerAddrs_setP]
    rfl
  case bcc | bcs | bne | beq | bpl | bmi | bvc | bvs =>
    simp only [State.run, State.branch_eq]
    rfl
  case tax | tay | txa | tya | tsx | txs | inx | dex | iny | dey | clc | cld | cli | clv | sec | sed | sei => rfl
  case pha | pla | plp | rts | rti | nop => rfl

end Sys2Proof.Machine
end

section
/-! The statements of the family 43_logic_arith_compare.md, settled. -/

namespace Sys2Proof.Machine

open Claims

/-- Settles O18: the two results agree in every choice of D, and so in the choice that `t` itself has. -/
theorem decimalFlagHasNoEffect : Obligations.DecimalFlagHasNoEffect := by
  intro i s t d hi h
  obtain rfl := exec_next h
  exact ⟨_, exec_eq_run i _, withD_run s hi d _ i.operand⟩

/-- Settles O30: every form runs the one addition of ADC, on the operand of its mode. -/
theorem adcAddsWithCarry : Obligations.AdcAddsWithCarry :=
  fun _ _ => ⟨adds_of_handler rfl, adds_of_handler rfl, adds_of_handler rfl, adds_of_handler rfl, adds_of_handler rfl,
    adds_of_handler rfl, adds_of_handler rfl, adds_of_handler rfl⟩

/-- Settles O31: every form runs the one subtraction of SBC, which is the addition of the complement. -/
theorem sbcSubtractsWithBorrow : Obligations.SbcSubtractsWithBorrow :=
  fun _ _ => ⟨subtracts_of_handler rfl, subtracts_of_handler rfl, subtracts_of_handler rfl, subtracts_of_handler rfl,
    subtracts_of_handler rfl, subtracts_of_handler rfl, subtracts_of_handler rfl, subtracts_of_handler rfl⟩

/-- Settles O32: every form runs the one comparison, with the register of its handler. -/
theorem comparesSetCarryZeroNegative : Obligations.ComparesSetCarryZeroNegative := by
  intro d8 a16
  refine ⟨?_, ?_, ?_, ?_, ?_, ?_, ?_, ?_, ?_, ?_, ?_, ?_, ?_, ?_⟩
  all_goals exact compares_of_run fun _ => rfl

/-- Settles O54: the values of the two additions cancel, since the complement takes away what the operand added. -/
theorem sbcUndoesAdc : Obligations.SbcUndoesAdc :=
  fun s v => ⟨_, _, rfl, rfl, subWithCarry_addWithCarry s.a v s.p.c⟩

/-- Settles O28: the handler of each form combines A and the operand with its own operation. -/
theorem logicCombinesIntoAccumulator : Obligations.LogicCombinesIntoAccumulator := by
  intro d8 a16
  refine ⟨?_, ?_, ?_, ?_, ?_, ?_, ?_, ?_, ?_, ?_, ?_, ?_, ?_, ?_, ?_, ?_, ?_, ?_, ?_, ?_, ?_, ?_, ?_, ?_⟩
  all_goals exact combines_of_run fun _ => rfl

/-- Settles O29: both forms run the one bit test, on the operand of their mode. -/
theorem bitTestsMemory : Obligations.BitTestsMemory :=
  fun _ _ => ⟨testsBits_of_handler rfl, testsBits_of_handler rfl⟩

end Sys2Proof.Machine
end

section
/-! SUPPORT. The shifts and rotates as numbers, and the flags they give (44_incdec_shift.md R186 to R190). -/

namespace Sys2Proof.Machine

open Claims

theorem Status.ofShift_eq (p : Status) (r : ShiftResult) :
    p.ofShift r = { withZN p r.value with c := r.carry } := by
  rw [Status.ofShift, setZN_eq_withZN]
  rfl

theorem aslByte_eq (c : Bool) (m : Byte) : aslByte c m = ⟨BitVec.ofNat 8 (2 * m.toNat), m.getLsbD 7⟩ := by
  have hv : (aslByte c m).value = BitVec.ofNat 8 (2 * m.toNat) :=
    BitVec.eq_of_toNat_eq (by rw [aslByte_value, BitVec.toNat_ofNat])
  rw [← hv]
  rfl

theorem lsrByte_eq (c : Bool) (m : Byte) : lsrByte c m = ⟨BitVec.ofNat 8 (m.toNat / 2), m.getLsbD 0⟩ := by
  have hv : (lsrByte c m).value = BitVec.ofNat 8 (m.toNat / 2) := by
    rw [← lsrByte_value c m, BitVec.ofNat_toNat, BitVec.setWidth_eq]
  rw [← hv]
  rfl

/-- The carry enters at bit 0, which the shift has left clear, so that the union is a sum. -/
theorem rolByte_eq (c : Bool) (m : Byte) :
    rolByte c m = ⟨BitVec.ofNat 8 (2 * m.toNat + c.toNat), m.getLsbD 7⟩ := by
  have disjoint : m <<< 1 &&& (BitVec.ofBool c).setWidth 8 = 0#8 := by
    ext k hk
    cases k <;> simp
  have hv : m <<< 1 ||| (BitVec.ofBool c).setWidth 8 = BitVec.ofNat 8 (2 * m.toNat + c.toNat) := by
    rw [← BitVec.add_eq_or_of_and_eq_zero _ _ disjoint]
    apply BitVec.eq_of_toNat_eq
    cases c <;> simp [Nat.shiftLeft_eq, Nat.mul_comm]
  rw [rolByte, hv]

/-- The carry enters at bit 7, which the shift has left clear, so that the union is a sum. -/
theorem rorByte_eq (c : Bool) (m : Byte) :
    rorByte c m = ⟨BitVec.ofNat 8 (m.toNat / 2 + 128 * c.toNat), m.getLsbD 0⟩ := by
  have disjoint : m >>> 1 &&& (BitVec.ofBool c).setWidth 8 <<< 7 = 0#8 := by
    ext k hk
    by_cases h : k < 7
    · simp [h]
    · simp [show 8 ≤ 1 + k by omega]
  have hv : m >>> 1 ||| (BitVec.ofBool c).setWidth 8 <<< 7 = BitVec.ofNat 8 (m.toNat / 2 + 128 * c.toNat) := by
    rw [← BitVec.add_eq_or_of_and_eq_zero _ _ disjoint]
    apply BitVec.eq_of_toNat_eq
    cases c with
    | false => simp [Nat.shiftRight_eq_div_pow]; omega
    | true => simp [Nat.shiftRight_eq_div_pow]
  rw [rorByte, hv]

end Sys2Proof.Machine
end

section
/-! SUPPORT. What an instruction answers that reads the effective address and writes it back, and what every shift
answers, from its handler (44_incdec_shift.md R180, R181, R186 to R190). -/

namespace Sys2Proof.Machine

open Claims

variable {i : Instr} {m : MemOperand} {f : Bool → Byte → ShiftResult} {value : Bool → Byte → Byte} {out : Byte → Bool}

/-- An instruction whose handler reads its memory operand, presents `v` at the effective address and leaves the status
`q` answers that, and nothing else changes. -/
theorem answers_readThenWrite {s : State} {v : Byte} {q : Status}
    (h : s.run i.handler i.operand =
      { (s.afterReads (s.operandAddrs (.memory m))).memWrite (s.effectiveAddress m) v with p := q }) :
    ∃ t, exec i s = .next t ∧
      ReadsThenWrites s t (Claims.pointerAddrs s m ++ [s.effectiveAddress m]) (s.effectiveAddress m) v ∧
      t = { s with p := q, mem := t.mem, bus := t.bus, deviceReads := t.deviceReads } := by
  rw [State.operandAddrs_memory, ← pointerAddrs_eq] at h
  exact ⟨_, exec_eq_run i s, by rw [h]; exact ⟨rfl, rfl, fun b => State.byteAt_memWrite _ _ b v⟩, by rw [h]; rfl⟩

theorem modifies_of_run {g : Byte → Byte} (h : ∀ s : State, s.run i.handler i.operand = s.modify g m) :
    Modifies g i (encode i) m :=
  ⟨rfl, fun s => answers_readThenWrite (by rw [h, State.modify_eq, setZN_eq_withZN])⟩

theorem shiftsA_of_run (hf : ∀ c b, f c b = ⟨value c b, out b⟩)
    (h : ∀ s : State, s.run i.handler i.operand = s.shift f .accumulator) : ShiftsA value out i (encode i) :=
  ⟨rfl, fun s => answers_of_run (by rw [h, State.shift_accumulator_eq, Status.ofShift_eq, hf])⟩

theorem shiftsMemory_of_run (hf : ∀ c b, f c b = ⟨value c b, out b⟩)
    (h : ∀ s : State, s.run i.handler i.operand = s.shift f (.memory m)) : ShiftsMemory value out i (encode i) m := by
  refine ⟨rfl, fun s old hold => ?_⟩
  subst hold
  exact answers_readThenWrite (by rw [h, State.shift_memory_eq, Status.ofShift_eq, hf])

end Sys2Proof.Machine
end

section
/-! The statements of the family 44_incdec_shift.md, settled. -/

namespace Sys2Proof.Machine

open Claims

/-- Settles O35: every form runs the one shift of its handler, which doubles or halves the operand. -/
theorem shiftsMoveOneBit : Obligations.ShiftsMoveOneBit :=
  fun _ _ => ⟨shiftsA_of_run aslByte_eq fun _ => rfl, shiftsMemory_of_run aslByte_eq fun _ => rfl,
    shiftsMemory_of_run aslByte_eq fun _ => rfl, shiftsMemory_of_run aslByte_eq fun _ => rfl,
    shiftsMemory_of_run aslByte_eq fun _ => rfl, shiftsA_of_run lsrByte_eq fun _ => rfl,
    shiftsMemory_of_run lsrByte_eq fun _ => rfl, shiftsMemory_of_run lsrByte_eq fun _ => rfl,
    shiftsMemory_of_run lsrByte_eq fun _ => rfl, shiftsMemory_of_run lsrByte_eq fun _ => rfl⟩

/-- Settles O36: every form runs the one rotate of its handler, which adds the old carry at the end that the shift has
left clear. -/
theorem rotatesPassThroughCarry : Obligations.RotatesPassThroughCarry :=
  fun _ _ => ⟨shiftsA_of_run rolByte_eq fun _ => rfl, shiftsMemory_of_run rolByte_eq fun _ => rfl,
    shiftsMemory_of_run rolByte_eq fun _ => rfl, shiftsMemory_of_run rolByte_eq fun _ => rfl,
    shiftsMemory_of_run rolByte_eq fun _ => rfl, shiftsA_of_run rorByte_eq fun _ => rfl,
    shiftsMemory_of_run rorByte_eq fun _ => rfl, shiftsMemory_of_run rorByte_eq fun _ => rfl,
    shiftsMemory_of_run rorByte_eq fun _ => rfl, shiftsMemory_of_run rorByte_eq fun _ => rfl⟩

/-- Settles O33: the handler of each form modifies its memory operand by plus or minus one. -/
theorem incDecMemory : Obligations.IncDecMemory := by
  intro d8 a16
  refine ⟨?_, ?_, ?_, ?_, ?_, ?_, ?_, ?_⟩
  all_goals exact modifies_of_run fun _ => rfl

/-- Settles O34: each of the four writes its register, and Z and N from the value written. -/
theorem incDecRegister : Obligations.IncDecRegister :=
  ⟨fun s => answers_withZN (u := s.setX (s.x + 1)) rfl, rfl, fun s => answers_withZN (u := s.setX (s.x - 1)) rfl, rfl,
    fun s => answers_withZN (u := s.setY (s.y + 1)) rfl, rfl, fun s => answers_withZN (u := s.setY (s.y - 1)) rfl, rfl⟩

end Sys2Proof.Machine
end

section
/-! SUPPORT. What a jump and a branch answer, from the handler (45_control_transfer.md R200, R205), and the bytes that
pushes write one after the other (40_step_and_addressing.md R116, R118). -/

namespace Sys2Proof.Machine

open Claims

variable {i : Instr} {s t : State}

/-- A jump makes its pointer reads and changes PC alone. -/
theorem answers_of_jump {m : MemOperand} (h : s.run i.handler i.operand = s.jump m) :
    Answers i s { s with pc := s.effectiveAddress m } :=
  answers_of_run (h.trans (s.jump_eq m))

/-- Adding the sign extension of a displacement is adding its signed value modulo 65 536. -/
theorem add_sext16 (w : Word) (d8 : Byte) : w + sext16 d8 = BitVec.ofInt 16 ((w.toNat : Int) + d8.toInt) := by
  rw [BitVec.ofInt_add, BitVec.ofInt_natCast, BitVec.ofNat_toNat, BitVec.setWidth_eq]
  rfl

theorem branches_of_run {cond : Status → Bool} {d8 : Byte}
    (h : ∀ s : State, s.run i.handler i.operand = s.branch (cond s.p) d8) : Branches cond i (encode i) d8 := by
  refine ⟨rfl, fun s => ⟨s.bus, s.deviceReads, ?_⟩⟩
  rw [exec_eq_run, h, State.branch, State.setPc, add_sext16]
  split <;> rfl

theorem writesBytes_nil (s : State) : WritesBytes s s [] := fun _ => (ite_self _).symm

/-- A push adds its byte to the end of the bytes written, where the latest write of an address counts. -/
theorem writesBytes_push {ws : List (Word × Byte)} (h : WritesBytes s t ws) (hc : t.config = s.config) (v : Byte) :
    WritesBytes s (t.push v) (ws ++ [(stackAddr t.sp, v)]) := by
  intro b
  rw [State.byteAt_push, hc, h b, List.reverse_append, List.reverse_singleton, List.singleton_append, List.lookup_cons]
  by_cases hb : b = stackAddr t.sp
  · subst hb
    by_cases hr : s.config.bus.backingOf (stackAddr t.sp) = .ram <;> simp [hr]
  · simp [hb, beq_false_of_ne hb]

theorem writesBytes_pushWord (s : State) (w : Word) :
    WritesBytes s (s.pushWord w) [(stackAddr s.sp, hiByte w), (stackAddr (s.sp - 1), loByte w)] :=
  writesBytes_push (writesBytes_push (writesBytes_nil s) rfl (hiByte w)) rfl (loByte w)

theorem State.answers_pair (s : State) (z z2 : Word) : s.answers [z, z2] = [s.answerAt z, s.answerAfter [z] z2] := rfl

end Sys2Proof.Machine
end

section
/-! The statements of the family 45_control_transfer.md, settled. -/

namespace Sys2Proof.Machine

open Claims

/-- Settles O38: the handler is one two-byte push of PC - 1 and a jump to an operand without a pointer. -/
theorem jsrPushesReturnAddress : Obligations.JsrPushesReturnAddress := by
  refine fun a16 => ⟨rfl, fun s => ⟨{ s.pushWord (s.pc - 1) with pc := a16 }, ?exec, ?writes, ?frame⟩⟩
  case exec =>
    have hrun : s.run (Instr.jsr a16).handler (Instr.jsr a16).operand = s.jsr (.absolute a16) := rfl
    have hreads : s.pointerAddrs (.absolute a16) = [] := rfl
    rw [exec_eq_run, hrun, State.jsr_eq, hreads, State.afterReads_nil]
    rfl
  case writes => exact writesBytes_pushWord s (s.pc - 1)
  case frame => rw [State.pushWord_eq]

/-- Settles O40: the handler of each branch is the common branch rule with its own condition. -/
theorem branchesMoveByDisplacement : Obligations.BranchesMoveByDisplacement := by
  intro d8
  refine ⟨?_, ?_, ?_, ?_, ?_, ?_, ?_, ?_⟩
  all_goals exact branches_of_run fun _ => rfl

/-- Settles O37: both forms jump, to the operand word and to the word that the pointer holds. -/
theorem jumpSetsProgramCounter : Obligations.JumpSetsProgramCounter :=
  fun _ => ⟨rfl, rfl, fun _ => answers_of_jump (m := .absolute _) rfl,
    fun _ => answers_of_jump (m := .indirect _) rfl⟩

/-- Settles O39: the two bytes answered are those of the pulled word, to which the handler adds one. -/
theorem rtsReturnsPastPulledWord : Obligations.RtsReturnsPastPulledWord := by
  refine ⟨rfl, fun s lo hi h => ?_⟩
  rw [State.answers_pair] at h
  obtain ⟨rfl, hrest⟩ := List.cons.inj h
  obtain rfl := List.head_eq_of_cons_eq hrest
  exact answers_of_run s.rts_eq

end Sys2Proof.Machine
end

section
/-! SUPPORT. The entry sequence in the words of the statements (60_exceptions.md R242), and what a flag instruction
answers, from its handler (46_flags_system.md R220 to R226). -/

namespace Sys2Proof.Machine

open Claims

/-- The three bytes of an entry are those of its pushes: reading the vector writes nothing. -/
theorem writesBytes_enter (s : State) (ret : Word) (b : Bool) (vec : Word) :
    WritesBytes s (s.enter ret b vec)
      [(stackAddr s.sp, hiByte ret), (stackAddr (s.sp - 1), loByte ret), (stackAddr (s.sp - 2), packP b s.p)] := by
  have hpushes : WritesBytes s (s.entryPushes ret b) _ := writesBytes_push (writesBytes_pushWord s ret) rfl (packP b s.p)
  have hsp : (s.pushWord ret).sp = s.sp - 2 := by rw [State.pushWord_eq]
  rw [hsp] at hpushes
  intro a
  rw [State.byteAt, State.enter_mem_eq]
  exact hpushes a

/-- An entry whose vector is outside the stack page reads there what the environment answered before the pushes. -/
theorem entered_enter (s : State) (ret : Word) (b : Bool) {vec : Word} (h : 0x200 ≤ vec.toNat)
    (h' : vec.toNat ≠ 0xFFFF) : Entered s (s.enter ret b vec) ret b vec :=
  ⟨packP b s.p, s.answerAt vec, s.answerAfter [vec] (vec + 1), packP_isPacked b s.p, s.answers_pair vec (vec + 1),
    writesBytes_enter s ret b vec, s.enter_eq_of_le ret b h h'⟩

theorem brkPadWord_eq (pad : Bool) : brkPadWord pad = if pad then 1 else 0 := by
  cases pad <;> rfl

theorem State.answers_triple (s : State) (z z2 z3 : Word) :
    s.answers [z, z2, z3] = [s.answerAt z, s.answerAfter [z] z2, s.answerAfter [z, z2] z3] := rfl

/-- An instruction whose handler replaces the status alone answers that, with nothing else changed. -/
theorem setsFlags_of_run {f : Status → Status} {i : Instr}
    (h : ∀ s : State, s.run i.handler i.operand = s.setP (f s.p)) : SetsFlags f i (encode i) :=
  ⟨rfl, fun s => answers_of_run (h s)⟩

end Sys2Proof.Machine
end

section
/-! The statements of the family 46_flags_system.md, settled. -/

namespace Sys2Proof.Machine

open Claims

/-- Settles O42: the handler is the common entry, and the vector at 0xFFFE is outside the stack page. -/
theorem brkEntersThroughIrqVector : Obligations.BrkEntersThroughIrqVector := by
  refine ⟨rfl, fun s => ⟨s.brk, exec_eq_run .brk s, ?_⟩⟩
  rw [State.brk, brkPadWord_eq]
  exact entered_enter s _ true (by decide) (by decide)

/-- Settles O44: the first of the three bytes answered is the pulled status, the other two are those of the pulled
word, which the handler does not adjust. -/
theorem rtiRestoresStatusAndProgramCounter : Obligations.RtiRestoresStatusAndProgramCounter := by
  refine ⟨rfl, fun s status lo hi h => ?_⟩
  rw [State.answers_triple] at h
  obtain ⟨rfl, hword⟩ := List.cons.inj h
  obtain ⟨rfl, hrest⟩ := List.cons.inj hword
  obtain rfl := List.head_eq_of_cons_eq hrest
  exact answers_of_run s.leave_eq

/-- Settles O41: the handler of each of the seven replaces the status by one with its one flag written. -/
theorem flagInstructionsWriteOneFlag : Obligations.FlagInstructionsWriteOneFlag := by
  refine ⟨?_, ?_, ?_, ?_, ?_, ?_, ?_⟩
  all_goals exact setsFlags_of_run fun _ => rfl

/-- Settles O43: the handler of NOP answers the state as it is. -/
theorem nopOnlyAdvances : Obligations.NopOnlyAdvances :=
  ⟨rfl, exec_eq_run .nop⟩

end Sys2Proof.Machine
end

section
/-! SUPPORT. An entry through any vector, and what `interrupt` does by the flag I (60_exceptions.md R242, R244). -/

namespace Sys2Proof.Machine

/-- Everything an entry does through any vector: an answer depends on memory and on the device reads before, so that the
vector's two bytes are answered as in the state before the entry with the pushed memory. -/
theorem State.enter_eq_withMem (s : State) (ret : Word) (b : Bool) (vec : Word) {u : State}
    (hu : u = { s with mem := (s.enter ret b vec).mem }) :
    s.enter ret b vec = { s with
      sp := s.sp - 3
      pc := wordOf (u.answerAfter [vec] (vec + 1)) (u.answerAt vec)
      p := { s.p with i := true }
      mem := (s.enter ret b vec).mem
      deviceReads := (u.afterReads [vec, vec + 1]).deviceReads
      bus := s.bus ++ [.write (stackAddr s.sp) (hiByte ret), .write (stackAddr (s.sp - 1)) (loByte ret),
        .write (stackAddr (s.sp - 2)) (packP b s.p), .read vec (u.answerAt vec),
        .read (vec + 1) (u.answerAfter [vec] (vec + 1))] } := by
  subst hu
  conv => lhs; rw [State.enter_eq, State.entryPushes_eq, ← s.enter_mem_eq ret b vec]
  simp [State.afterReads, State.answers_pair, State.answerAfter, State.answerAt]

theorem State.interrupt_of_masked {s : State} (h : s.p.i = true) : s.interrupt = s := if_pos h

theorem State.interrupt_of_clear {s : State} (h : s.p.i = false) : s.interrupt = s.enter s.pc false 0xFFFE :=
  if_neg (Bool.eq_false_iff.mp h)

end Sys2Proof.Machine
end

section
/-! The statements of the family 60_exceptions.md, settled. -/

namespace Sys2Proof.Machine

open Claims

/-- Settles O46: `interrupt` is a case split on I, and its vector at 0xFFFE is outside the stack page. -/
theorem interruptIsMaskedOrTaken : Obligations.InterruptIsMaskedOrTaken := by
  intro s hr hq
  rw [step_interrupt s hr hq]
  refine ⟨fun hi => ?masked, fun hi => ⟨_, rfl, ?taken⟩⟩
  case masked => exact congrArg _ (State.interrupt_of_masked (s := s.beginTransition) hi)
  case taken =>
    rw [State.interrupt_of_clear (s := s.beginTransition) hi]
    exact entered_enter s.beginTransition s.pc false (by decide) (by decide)

/-- Settles O47: `nmi` is the entry sequence whatever I is, and its vector at 0xFFFA is outside the stack page. -/
theorem nmiIsAlwaysTaken : Obligations.NmiIsAlwaysTaken := fun s hr hq =>
  ⟨s.beginTransition.nmi, step_nmi s hr hq, entered_enter s.beginTransition s.pc false (by decide) (by decide)⟩

/-- Settles O49: the two bytes answered at the vector are those of the word that PC takes. -/
theorem entrySequenceIsCommon : Obligations.EntrySequenceIsCommon := by
  rintro s ret b vec _ u lo hi rfl hu h
  rw [State.answers_pair] at h
  obtain ⟨rfl, hrest⟩ := List.cons.inj h
  obtain rfl := List.head_eq_of_cons_eq hrest
  have henter := s.enter_eq_withMem ret b vec hu
  have hpc := congrArg State.pc henter
  refine ⟨packP b s.p, packP_isPacked b s.p, writesBytes_enter s ret b vec, ?_, ?_⟩
  · rw [hpc, wordOf_toNat]
  · rw [hpc]
    exact henter

end Sys2Proof.Machine
end

section
/-! SUPPORT. The record of bus transactions explains memory: run in order from the memory before, it gives the memory
after (20_memory.md R50 to R53). -/

namespace Sys2Proof.Machine

open Claims

section

variable {b : Bus} {f g g' : Word → Byte} {n k k' : Nat} {es es' : List BusEvent}

/-- Two records one after the other explain what the second leaves. -/
theorem inOrder_append (h : InOrder b f n es g k) (h' : InOrder b g k es' g' k') : InOrder b f n (es ++ es') g' k' := by
  induction es generalizing f n with
  | nil =>
    obtain ⟨hg, rfl⟩ := h
    obtain rfl := funext hg
    exact h'
  | cons e es ih =>
    cases e with
    | write a v => exact ih h
    | read a v =>
      by_cases hd : b.backingOf a = .device <;> simp only [List.cons_append, InOrder, hd, if_true, if_false] at h ⊢
      all_goals exact h.imp_right ih

/-- An address that no recorded write names, or that has no RAM behind it, holds what it held. -/
theorem inOrder_eq_of_not_written {w : Word} (h : InOrder b f n es g k)
    (hw : Access.write w ∉ es.map access ∨ b.backingOf w ≠ .ram) : g w = f w := by
  induction es generalizing f n with
  | nil =>
    obtain ⟨hg, -⟩ := h
    exact hg w
  | cons e es ih =>
    have hes : Access.write w ∉ es.map access ∨ b.backingOf w ≠ .ram :=
      hw.imp_left fun hne hmem => hne (List.mem_cons_of_mem _ hmem)
    cases e with
    | read a v =>
      by_cases hd : b.backingOf a = .device <;> simp only [InOrder, hd, if_true, if_false] at h
      all_goals
        obtain ⟨-, hrest⟩ := h
        exact ih hrest hes
    | write a v =>
      refine (ih h hes).trans (if_neg ?_)
      rintro ⟨rfl, hram⟩
      exact hw.elim (fun hne => hne List.mem_cons_self) (fun hne => hne hram)

end

variable {s t u : State}

/-- What `t` records past the record of `s` explains its memory and its count of device reads. -/
def State.Explains (s t : State) : Prop :=
  ∃ es, t.bus = s.bus ++ es ∧ InOrder s.config.bus s.byteAt s.deviceReads es t.byteAt t.deviceReads

theorem State.explains_trans (hc : t.config = s.config) (h : s.Explains t) (h' : t.Explains u) : s.Explains u := by
  obtain ⟨es, hbus, hin⟩ := h
  obtain ⟨es', hbus', hin'⟩ := h'
  rw [hc] at hin'
  exact ⟨es ++ es', by rw [hbus', hbus, List.append_assoc], inOrder_append hin hin'⟩

/-- A read returns what memory holds, or the next answer of a device, and changes no memory (R50). -/
theorem State.explains_memRead (s : State) (addr : Word) : s.Explains (s.memRead addr).2 := by
  refine ⟨[.read addr (s.answerAt addr)], rfl, ?_⟩
  by_cases hd : s.config.bus.backingOf addr = .device
  · rw [InOrder, if_pos hd]
    exact ⟨Bus.answer_of_device _ _ hd, fun _ => rfl, Bus.countRead_of_device _ hd⟩
  · rw [InOrder, if_neg hd]
    exact ⟨Bus.answer_of_ne_device _ _ hd, fun _ => rfl, Bus.countRead_of_ne_device _ hd⟩

/-- A write is kept where RAM stands behind its address (R51). -/
theorem State.explains_memWrite (s : State) (addr : Word) (v : Byte) : s.Explains (s.memWrite addr v) :=
  ⟨[.write addr v], rfl, fun w => s.byteAt_memWrite addr w v, rfl⟩

/-- The whole of a record is explained, since every read and every write of it is. -/
theorem State.Does.explains (h : s.Does t) : s.Explains t := by
  induction h with
  | refl => exact ⟨[], (List.append_nil _).symm, fun _ => rfl, rfl⟩
  | registers _ _ _ _ _ _ _ ih => exact ih
  | read hd addr ih =>
    obtain ⟨hc, -, -⟩ := hd.environment_eq
    exact State.explains_trans hc ih (State.explains_memRead _ addr)
  | write hd addr v ih =>
    obtain ⟨hc, -, -⟩ := hd.environment_eq
    exact State.explains_trans hc ih (State.explains_memWrite _ addr v)

/-- The addresses that `reset` reads: the vector's two in the `vector` configuration, none in the `fixed` one
(70_reset_and_hazards.md R270, R271). -/
def State.resetAddrs (s : State) : List Word :=
  match s.config.resetPcSource with
  | .vector => [resetVector, resetVector + 1]
  | .fixed => []

/-- `reset` only reads, and overwrites the register file. -/
theorem State.performReset_eq_afterReads (s : State) :
    s.performReset = { s.afterReads s.resetAddrs with
      a := 0x00
      x := 0x00
      y := 0x00
      sp := 0xFF
      p := Status.boot
      pc := resetPc s.config s.mem s.deviceReads
      resetDone := true } := by
  rw [State.performReset_eq]
  rfl

theorem State.explains_performReset (s : State) : s.Explains s.performReset := by
  have hreads : s.Explains (s.afterReads s.resetAddrs) := State.Does.explains (.reads .refl _)
  rw [State.performReset_eq_afterReads]
  exact hreads

theorem write_not_mem_resolverAccesses (s : State) (o : Operand) (w : Word) :
    Access.write w ∉ resolverAccesses s o := by
  cases o <;> simp

/-- The operand fetch is one read or none (40_step_and_addressing.md R114). -/
theorem operandAccesses_cases (s : State) (i : Instr) :
    operandAccesses s i = [] ∨ ∃ addr, operandAccesses s i = [.read addr] := by
  unfold operandAccesses
  cases i.operand <;> split <;> simp

theorem write_not_mem_operandAccesses (s : State) (i : Instr) (w : Word) : Access.write w ∉ operandAccesses s i := by
  obtain h | ⟨addr, h⟩ := operandAccesses_cases s i <;> simp [h]

/-- The record of a handler past what it starts with: its writes are those to the addresses that it stores to. -/
theorem write_mem_iff_of_run {i : Instr} {es : List BusEvent} (h : (s.run i.handler i.operand).bus = s.bus ++ es)
    (w : Word) : Access.write w ∈ es.map access ↔ w ∈ storeAddrs s i := by
  have hmap := map_access_run s i
  simp only [h, List.map_append, List.append_assoc, List.append_cancel_left_eq] at hmap
  simp [hmap, write_not_mem_resolverAccesses, write_not_mem_operandAccesses]

end Sys2Proof.Machine
end

section
/-! SUPPORT. How many bus transactions an instruction makes (40_step_and_addressing.md R119): no more than five, and BRK
six. -/

namespace Sys2Proof.Machine

open Claims

variable (s : State)

/-- The operand bytes and the pointer bytes of an operand: four in the indirect mode, at most three in the others. -/
theorem operandBytes_add_resolverAccesses_le (o : Operand) :
    o.mode.operandBytes + (resolverAccesses s o).length ≤ if o.mode = .indirect then 4 else 3 := by
  cases o with
  | implied => simp [Operand.mode, Mode.operandBytes]
  | immediate _ => simp [Operand.mode, Mode.operandBytes]
  | memory m => cases m <;> simp [Operand.mode, MemOperand.mode, Mode.operandBytes, State.pointerAddrs]

/-- Only JMP and the unassigned opcodes have the indirect mode. -/
theorem mode_ne_indirect {i : Instr} (h : i.handler ≠ .jmp) (h' : i.handler ≠ .noOp) : i.operand.mode ≠ .indirect := by
  intro hm
  cases ho : i.operand with
  | implied => simp [ho, Operand.mode] at hm
  | immediate _ => simp [ho, Operand.mode] at hm
  | memory m =>
    cases m <;> simp [ho, Operand.mode, MemOperand.mode] at hm
    exact operand_ne_indirect i h h' _ ho

/-- The modes of the read-modify-write instructions have no pointer. -/
theorem operandBytes_add_resolverAccesses_le_two {i : Instr}
    (h : i.handler ∈ [Handler.inc, .dec, .asl, .lsr, .rol, .ror]) :
    i.operand.mode.operandBytes + (resolverAccesses s i.operand).length ≤ 2 := by
  have hm := modify_operand i h
  cases ho : i.operand with
  | implied => simp [Operand.mode, Mode.operandBytes]
  | immediate _ => simp [Operand.mode, Mode.operandBytes]
  | memory m =>
    cases m <;> simp [ho, Operand.mode, MemOperand.mode, Mode.operandBytes, State.pointerAddrs] at hm ⊢

/-- An instruction whose handler has no memory form has at most one operand byte, and no pointer. -/
theorem operandBytes_le_one {i : Instr} (h : Handler.noMemoryForm i.handler = true) :
    i.operand.mode.operandBytes ≤ 1 := by
  cases ho : i.operand with
  | implied => exact Nat.zero_le 1
  | immediate _ => exact Nat.le_refl 1
  | memory m => exact absurd ho (operand_ne_memory i h m)

/-- No instruction but BRK makes more than four bus transactions past its opcode byte: a read and a write at the
effective address leave no room for a pointer, and one of them leaves no room for the indirect mode. -/
theorem transactions_le_four {i : Instr} (h : i.handler ≠ .brk) :
    i.operand.mode.operandBytes + (resolverAccesses s i.operand).length + (operandAccesses s i).length +
      (storeAddrs s i).length + (loadAddrs s i).length ≤ 4 := by
  have hle := operandBytes_add_resolverAccesses_le s i.operand
  unfold operandAccesses storeAddrs loadAddrs
  cases hh : i.handler
  case brk => exact absurd hh h
  case inc | dec | asl | lsr | rol | ror =>
    have hle := operandBytes_add_resolverAccesses_le_two s (i := i) (by simp [hh])
    generalize i.operand = o at hle ⊢
    cases o <;> simp at hle ⊢ <;> omega
  case lda | ldx | ldy | and | ora | eor | bit | adc | sbc | cmp | cpx | cpy | sta | stx | sty =>
    rw [if_neg (mode_ne_indirect (by simp [hh]) (by simp [hh]))] at hle
    generalize i.operand = o at hle ⊢
    cases o <;> simp at hle ⊢ <;> omega
  case jmp | noOp =>
    exact hle.trans (by split <;> decide)
  case jsr =>
    obtain ⟨a16, ho⟩ := jsr_operand i hh
    simp [ho, Operand.mode, MemOperand.mode, Mode.operandBytes, State.pointerAddrs]
  all_goals
    have hle := operandBytes_le_one (i := i) (hh ▸ rfl)
    rw [resolverAccesses_of_noMemoryForm s (hh ▸ rfl)]
    simp only [List.length_nil, List.length_cons]
    omega

/-- The three bytes that the environment answers at PC always decode (30_encoding.md R83). -/
theorem exists_decode_window (m : IllegalModes) : ∃ i rest, decode m (window s) = .instr i rest :=
  ⟨_, _, decode_cons_of_le (operandCount_le_two m _)⟩

/-- An entry makes five bus transactions: three pushes and the two reads of its vector (60_exceptions.md R242). -/
theorem State.length_bus_enter (ret : Word) (b : Bool) (vec : Word) :
    (s.enter ret b vec).bus.length = s.bus.length + 5 := by
  rw [State.enter_eq_withMem s ret b vec rfl, List.length_append]
  rfl

theorem State.length_bus_performReset : s.performReset.bus.length ≤ s.bus.length + 2 := by
  rw [State.performReset_eq_afterReads]
  cases hc : s.config.resetPcSource <;> simp [State.resetAddrs, hc, State.length_answers]

/-- A step makes one bus transaction more than its instruction makes past the opcode byte. -/
theorem length_bus_of_step {s t : State} {i : Instr} {rest : List Byte} (hq : s.nextRequest = .step)
    (hd : decode s.config.illegalModes (window s) = .instr i rest) (h : step s = .next t) :
    t.bus.length = 1 + (i.operand.mode.operandBytes + (resolverAccesses (fetched s i) i.operand).length +
      (operandAccesses (fetched s i) i).length + (storeAddrs (fetched s i) i).length +
      (loadAddrs (fetched s i) i).length) := by
  rw [← List.length_map access, busTransactionsOfStep s t i rest hq hd h]
  simp [instrAddrs, Laws.encode_length, Nat.add_assoc]

end Sys2Proof.Machine
end

section
/-! SUPPORT. The writers of each register (10_state.md sections 2 and 3): what each handler leaves of A, X, Y, SP and
PC. -/

namespace Sys2Proof.Machine

/-- The registers that a handler can have written on the way from `s` to `t`, column by column. Only the accumulator
forms of the shifts write A. -/
structure State.WritesListed (s : State) (h : Handler) (o : Operand) (t : State) : Prop where
  a : t.a = s.a ∨ h ∈ [Handler.lda, .txa, .tya, .pla, .and, .ora, .eor, .adc, .sbc] ∨
    (h ∈ [Handler.asl, .lsr, .rol, .ror] ∧ ∀ m, o ≠ .memory m)
  x : t.x = s.x ∨ h ∈ [Handler.ldx, .tax, .tsx, .inx, .dex]
  y : t.y = s.y ∨ h ∈ [Handler.ldy, .tay, .iny, .dey]
  sp : t.sp = s.sp ∨ h ∈ [Handler.txs, .pha, .php, .pla, .plp, .jsr, .rts, .rti, .brk]
  pc : t.pc = s.pc ∨ h ∈ [Handler.jmp, .jsr, .rts, .rti, .brk, .bcc, .bcs, .bne, .beq, .bpl, .bmi, .bvc, .bvs]

theorem State.WritesListed.kept {s t : State} {h : Handler} {o : Operand}
    (ht : (t.a, t.x, t.y, t.sp, t.pc) = (s.a, s.x, s.y, s.sp, s.pc)) : s.WritesListed h o t := by
  simp only [Prod.mk.injEq] at ht
  obtain ⟨ha, hx, hy, hsp, hpc⟩ := ht
  exact ⟨.inl ha, .inl hx, .inl hy, .inl hsp, .inl hpc⟩

variable (s : State)

theorem State.onMemory_writesListed {h : Handler} {o : Operand} {f : MemOperand → State}
    (hf : ∀ m, s.WritesListed h o (f m)) : s.WritesListed h o (s.onMemory o f) := by
  cases o with
  | implied => exact .kept rfl
  | immediate _ => exact .kept rfl
  | memory m => exact hf m

theorem State.shift_writesListed {h : Handler} (hh : h ∈ [Handler.asl, .lsr, .rol, .ror])
    (f : Bool → Byte → ShiftResult) (o : Operand) : s.WritesListed h o (s.shift f (shiftOperand o)) := by
  cases o with
  | memory m =>
    rw [shiftOperand, State.shift_memory_eq]
    exact .kept rfl
  | implied =>
    rw [shiftOperand, State.shift_accumulator_eq]
    exact ⟨.inr (.inr ⟨hh, nofun⟩), .inl rfl, .inl rfl, .inl rfl, .inl rfl⟩
  | immediate _ =>
    rw [shiftOperand, State.shift_accumulator_eq]
    exact ⟨.inr (.inr ⟨hh, nofun⟩), .inl rfl, .inl rfl, .inl rfl, .inl rfl⟩

/-- Every handler writes no register but those of its columns. -/
theorem State.run_writesListed (h : Handler) (o : Operand) : s.WritesListed h o (s.run h o) := by
  cases h
  case lda | and | ora | eor | adc | sbc | txa | tya =>
    simp only [State.run, State.lda_eq, State.logic_eq, State.adc_eq, State.sbc_eq]
    exact ⟨.inr (.inl (by decide)), .inl rfl, .inl rfl, .inl rfl, .inl rfl⟩
  case ldx | tax | tsx | inx | dex =>
    simp only [State.run, State.ldx_eq]
    exact ⟨.inl rfl, .inr (by decide), .inl rfl, .inl rfl, .inl rfl⟩
  case ldy | tay | iny | dey =>
    simp only [State.run, State.ldy_eq]
    exact ⟨.inl rfl, .inl rfl, .inr (by decide), .inl rfl, .inl rfl⟩
  case txs | pha | php | plp =>
    exact ⟨.inl rfl, .inl rfl, .inl rfl, .inr (by decide), .inl rfl⟩
  case pla => exact ⟨.inr (.inl (by decide)), .inl rfl, .inl rfl, .inr (by decide), .inl rfl⟩
  case brk =>
    exact ⟨.inl (s.enter_a ..), .inl (s.enter_x ..), .inl (s.enter_y ..), .inr (by decide), .inr (by decide)⟩
  case rts | rti =>
    simp only [State.run, State.rts_eq, State.leave_eq]
    exact ⟨.inl rfl, .inl rfl, .inl rfl, .inr (by decide), .inr (by decide)⟩
  case bcc | bcs | bne | beq | bpl | bmi | bvc | bvs =>
    simp only [State.run, State.branch_eq]
    exact ⟨.inl rfl, .inl rfl, .inl rfl, .inl rfl, .inr (by decide)⟩
  case jmp =>
    refine s.onMemory_writesListed fun m => ?_
    rw [State.jump_eq]
    exact ⟨.inl rfl, .inl rfl, .inl rfl, .inl rfl, .inr (by decide)⟩
  case jsr =>
    refine s.onMemory_writesListed fun m => ?_
    rw [State.jsr_eq, State.pushWord_eq]
    exact ⟨.inl rfl, .inl rfl, .inl rfl, .inr (by decide), .inr (by decide)⟩
  case sta | stx | sty =>
    refine s.onMemory_writesListed fun m => ?_
    rw [State.store_eq]
    exact .kept rfl
  case inc | dec =>
    refine s.onMemory_writesListed fun m => ?_
    rw [State.modify_eq]
    exact .kept rfl
  case asl | lsr | rol | ror => exact s.shift_writesListed (by decide) _ o
  case bit | cmp | cpx | cpy | noOp | nop | clc | cld | cli | clv | sec | sed | sei =>
    simp only [State.run, State.bitTest_eq, State.compare_eq, State.resolveOnly_eq]
    exact .kept rfl

/-- A shift without a memory operand has none at all: no instruction has an immediate form of it. -/
theorem operand_implied_of_shift {i : Instr} (h : i.handler ∈ [Handler.asl, .lsr, .rol, .ror])
    (hm : ∀ m, i.operand ≠ .memory m) : i.operand = .implied := by
  have hmode := modify_operand i (mem_of_row h)
  cases ho : i.operand with
  | implied => rfl
  | immediate _ => simp [ho, Operand.mode] at hmode
  | memory m => exact absurd ho (hm m)

end Sys2Proof.Machine
end

section
/-! SUPPORT. On a stack page of RAM a pull answers what a push wrote (20_memory.md R61, 70_reset_and_hazards.md R274):
a return undoes its entry. -/

namespace Sys2Proof.Machine

variable {s t : State}

theorem State.StackIsRam.of_config (h : s.StackIsRam) (hc : t.config = s.config) : t.StackIsRam :=
  fun sp => hc ▸ h sp

/-- A read of the stack page, after any other reads, answers what memory holds. -/
theorem State.StackIsRam.answerAfter_eq (h : s.StackIsRam) (l : List Word) (sp : Byte) :
    s.answerAfter l (stackAddr sp) = s.byteAt (stackAddr sp) :=
  s.answerAfter_of_ne_device (by rw [h sp]; decide) l

theorem State.StackIsRam.answerAt_eq (h : s.StackIsRam) (sp : Byte) :
    s.answerAt (stackAddr sp) = s.byteAt (stackAddr sp) :=
  h.answerAfter_eq [] sp

/-- A pushed status comes back with B 0 and U 1, whatever its bit 4 is (10_state.md R37, R38). -/
theorem unpackP_packP (b : Bool) (p : Status) : unpackP (packP b p) = { p with b := false, u := true } := by
  obtain ⟨hn, hv, -, -, hd, hi, hz, hc⟩ := packP_isPacked b p
  exact Status.ext' hn hv rfl rfl hd hi hz hc

theorem State.leave_a (s : State) : s.leave.a = s.a := by rw [State.leave_eq]; rfl

theorem State.leave_x (s : State) : s.leave.x = s.x := by rw [State.leave_eq]; rfl

theorem State.leave_y (s : State) : s.leave.y = s.y := by rw [State.leave_eq]; rfl

/-- The return from an entry restores what the entry pushed (46_flags_system.md R230, 60_exceptions.md R249). -/
theorem State.leave_enter (h : s.StackIsRam) (ret : Word) (b : Bool) (vec : Word) :
    (s.enter ret b vec).leave.pc = ret ∧ (s.enter ret b vec).leave.sp = s.sp ∧
      (s.enter ret b vec).leave.p = { s.p with b := false, u := true } := by
  have ht : (s.enter ret b vec).StackIsRam := h.of_config (s.enter_config ret b vec)
  have h1 : s.sp - 3#8 + 1#8 = s.sp - 2#8 := by bv_omega
  have h2 : s.sp - 3#8 + 2#8 = s.sp - 1#8 := by bv_omega
  have h3 : s.sp ≠ s.sp - 2#8 := by bv_omega
  have h4 : s.sp ≠ s.sp - 1#8 := by bv_omega
  rw [State.leave_eq]
  simp [ht.answerAfter_eq, ht.answerAt_eq, State.byteAt_enter, h _, h1, h2, h3, h4, unpackP_packP]

/-- What the environment answers after an entry, outside the stack page: what it would have answered before it, after
the vector's two reads. -/
theorem State.answerAfter_enter (s : State) (ret : Word) (b : Bool) (vec : Word) (l : List Word) {w : Word}
    (hw : 0x200 ≤ w.toNat) :
    (s.enter ret b vec).answerAfter l w = s.answerAfter ([vec, vec + 1] ++ l) w := by
  simp only [State.answerAfter, State.enter_config, State.enter_deviceReads, s.answer_enter_mem ret b vec _ hw,
    Bus.countReads, List.foldl_append]

/-- An NMI right after an entry reads its vector as it was answered before the entry, after the entry's two reads. -/
theorem State.nmi_pc_of_enter (s : State) (ret : Word) (b : Bool) (vec : Word) :
    (s.enter ret b vec).beginTransition.nmi.pc =
      wordOf (s.answerAfter [vec, vec + 1, nmiVector] (nmiVector + 1)) (s.answerAfter [vec, vec + 1] nmiVector) := by
  have hlo := s.answerAfter_enter ret b vec [] (w := nmiVector) (by decide)
  have hhi := s.answerAfter_enter ret b vec [nmiVector] (w := nmiVector + 1) (by decide)
  rw [State.nmi, State.enter_pc _ _ _ (by decide) (by decide)]
  exact congrArg₂ wordOf hhi hlo

/-- A jump to a subroutine reads no pointer: it pushes the address of its last byte and goes to its operand
(45_control_transfer.md R203). -/
theorem State.jsr_absolute (s : State) (a16 : Word) :
    s.jsr (.absolute a16) = { s.pushWord (s.pc - 1) with pc := a16 } := by
  have hreads : s.pointerAddrs (.absolute a16) = [] := rfl
  rw [State.jsr_eq, hreads, State.afterReads_nil]
  rfl

/-- RTS after JSR: the pulled word is the pushed one, wherever PC, A, X, Y and the flags went (45_control_transfer.md
R203, R204). -/
theorem State.rts_of_pushWord (h : s.StackIsRam) {w : Word} (hc : t.config = s.config)
    (hm : t.mem = (s.pushWord w).mem) (hsp : t.sp = s.sp - 2) : t.rts.pc = w + 1 ∧ t.rts.sp = s.sp := by
  have ht : t.StackIsRam := h.of_config hc
  have hb : ∀ b, t.byteAt b = (s.pushWord w).byteAt b := fun b => by rw [State.byteAt, hm]; rfl
  have h1 : s.sp - 2#8 + 1#8 = s.sp - 1#8 := by bv_omega
  have h2 : s.sp ≠ s.sp - 1#8 := by bv_omega
  rw [State.rts_eq]
  simp [ht.answerAfter_eq, ht.answerAt_eq, hb, State.byteAt_pushWord, h _, hsp, h1, h2]

/-- A pull after a push answers the pushed byte, and gives SP back (42_stack.md). -/
theorem State.answerAt_of_push (h : s.StackIsRam) {v : Byte} (hc : t.config = s.config) (hm : t.mem = (s.push v).mem)
    (hsp : t.sp = s.sp - 1) : t.answerAt (stackAddr (t.sp + 1)) = v ∧ t.sp + 1 = s.sp := by
  have hsp' : t.sp + 1 = s.sp := by rw [hsp]; exact BitVec.sub_add_cancel _ _
  have hb : t.byteAt (stackAddr s.sp) = (s.push v).byteAt (stackAddr s.sp) := by rw [State.byteAt, hm]; rfl
  refine ⟨?_, hsp'⟩
  rw [hsp', (h.of_config hc).answerAt_eq, hb, State.byteAt_push, if_pos ⟨rfl, h s.sp⟩]

end Sys2Proof.Machine
end

section
/-! SUPPORT. The rotates turn the ring of A and C by one bit (44_incdec_shift.md R188, R189; 95_test_vectors.md V12 law
L3). -/

namespace Sys2Proof.Machine

open Claims

/-- ROL on a byte with its carry. -/
def rotateLeft (r : ShiftResult) : ShiftResult := rolByte r.carry r.value

/-- ROR on a byte with its carry. -/
def rotateRight (r : ShiftResult) : ShiftResult := rorByte r.carry r.value

/-- The nine bits of a byte with its carry, the carry first and bit 0 last. -/
def ShiftResult.ring (r : ShiftResult) : List Bool :=
  [r.carry, r.value.getLsbD 7, r.value.getLsbD 6, r.value.getLsbD 5, r.value.getLsbD 4, r.value.getLsbD 3,
    r.value.getLsbD 2, r.value.getLsbD 1, r.value.getLsbD 0]

theorem ShiftResult.ring_injective : Function.Injective ShiftResult.ring := by
  rintro ⟨v, c⟩ ⟨v', c'⟩ h
  simp only [ShiftResult.ring, List.cons.injEq] at h
  obtain ⟨hc, h7, h6, h5, h4, h3, h2, h1, h0, -⟩ := h
  have hv : v = v' := BitVec.eq_of_getLsbD_eq fun k hk => by interval_cases k <;> assumption
  rw [hv, hc]

theorem ring_rotateLeft (r : ShiftResult) : (rotateLeft r).ring = r.ring.rotate 1 := by
  simp [ShiftResult.ring, rotateLeft, rolByte]

theorem ring_iterate_rotateLeft (r : ShiftResult) (k : Nat) : (rotateLeft^[k] r).ring = r.ring.rotate k := by
  induction k with
  | zero => simp
  | succ k ih => rw [Function.iterate_succ_apply', ring_rotateLeft, ih, List.rotate_rotate]

/-- Nine turns of the nine bits are none. -/
theorem iterate_nine_rotateLeft (r : ShiftResult) : rotateLeft^[9] r = r :=
  ShiftResult.ring_injective ((ring_iterate_rotateLeft r 9).trans (List.rotate_length r.ring))

/-- ROR turns the ring back. -/
theorem rotateRight_rotateLeft : Function.LeftInverse rotateRight rotateLeft := by
  intro r
  apply ShiftResult.ring_injective
  simp [ShiftResult.ring, rotateLeft, rotateRight, rolByte, rorByte]

theorem iterate_nine_rotateRight (r : ShiftResult) : rotateRight^[9] r = r := by
  have h := rotateRight_rotateLeft.iterate 9 r
  rwa [iterate_nine_rotateLeft] at h

/-- A with the carry. -/
def State.carriedA (s : State) : ShiftResult := ⟨s.a, s.p.c⟩

theorem carriedA_rolA : Function.Semiconj State.carriedA (State.run · .rol .implied) rotateLeft := fun s =>
  congrArg State.carriedA (s.shift_accumulator_eq rolByte)

theorem carriedA_rorA : Function.Semiconj State.carriedA (State.run · .ror .implied) rotateRight := fun s =>
  congrArg State.carriedA (s.shift_accumulator_eq rorByte)

/-- Runs of one instruction are runs of its handler. -/
theorem execTimes_eq_iterate (i : Instr) (k : Nat) (s : State) :
    execTimes i k s = .next ((State.run · i.handler i.operand)^[k] s) := by
  induction k generalizing s with
  | zero => rfl
  | succ k ih => rw [execTimes, exec_eq_run, Function.iterate_succ_apply]; exact ih _

/-- The same A with the same carry is the same A and the same C. -/
theorem a_and_carry_eq {s t : State} (h : t.carriedA = s.carriedA) : t.a = s.a ∧ t.p.c = s.p.c :=
  ⟨congrArg ShiftResult.value h, congrArg ShiftResult.carry h⟩

end Sys2Proof.Machine
end

section
/-! SUPPORT. What an unassigned opcode answers, from its handler (46_flags_system.md R231). -/

namespace Sys2Proof.Machine

open Claims

/-- The no-op handler runs the resolver alone, which only reads the bus. -/
theorem noOps_of_handler {i : Instr} (h : i.handler = .noOp) : NoOps i (encode i) :=
  ⟨rfl, fun s => answers_of_run (by rw [h, State.run, State.resolveOnly_eq]; rfl)⟩

end Sys2Proof.Machine
end

section
/-! The statements of the family 70_reset_and_hazards.md, and those of no one family, settled. -/

namespace Sys2Proof.Machine

open Claims

/-- Settles O1: the bytes of a well-formed instruction are as many as the decoder looks for, and assemble to it. -/
theorem decodeOfEncode : Obligations.DecodeOfEncode :=
  fun _ _ rest hw => decode_encode_append hw rest

/-- Settles O2: what an opcode byte and its operand bytes assemble to has those bytes and is well formed. -/
theorem encodeOfDecode : Obligations.EncodeOfDecode :=
  fun _ _ _ _ h => encode_append_of_decode h

/-- Settles O10: a transition is a sequence of bus reads and bus writes, each of which its own record explains. -/
theorem busEventsExplainMemory : Obligations.BusEventsExplainMemory := by
  intro s t h
  have hexplains : s.beginTransition.Explains t := by
    obtain ⟨-, rfl⟩ | ⟨-, hd⟩ := step_does h
    · exact State.explains_performReset _
    · exact hd.explains
  obtain ⟨es, hbus, hin⟩ := hexplains
  rw [State.beginTransition_bus, List.nil_append] at hbus
  exact hbus ▸ hin

/-- Settles O15: memory changes only by the recorded writes, and those are to the addresses that the handler stores
to. -/
theorem memoryChangesOnlyWhereStored : Obligations.MemoryChangesOnlyWhereStored := by
  intro i s t w h hw
  obtain rfl := exec_next h
  obtain ⟨es, hbus, hin⟩ := (s.does_run i.handler i.operand).explains
  rw [← write_mem_iff_of_run hbus] at hw
  exact inOrder_eq_of_not_written hin hw

/-- Settles O16: no register write, bus read or bus write touches the parameters or the request list. -/
theorem transitionsKeepParametersAndTakeOneRequest : Obligations.TransitionsKeepParametersAndTakeOneRequest := by
  intro s t h
  obtain ⟨-, rfl⟩ | ⟨-, hd⟩ := step_does h
  · rw [State.performReset_eq]
    exact ⟨rfl, rfl⟩
  · obtain ⟨hc, hq, -⟩ := hd.environment_eq
    exact ⟨hc, hq⟩

/-- Settles O12: an entry makes five bus transactions, `reset` two at most, and a step six only where the opcode byte is
that of BRK. -/
theorem atMostSixBusTransactions : Obligations.AtMostSixBusTransactions := by
  intro s t h
  obtain ⟨-, rfl⟩ | ⟨-, -, rfl⟩ | ⟨-, -, rfl⟩ | ⟨hq, -, -⟩ := step_cases h
  · have hle : s.beginTransition.performReset.bus.length ≤ 2 := s.beginTransition.length_bus_performReset
    exact ⟨by omega, by omega⟩
  · have hle : s.beginTransition.interrupt.bus.length ≤ 5 := by
      cases hi : s.p.i with
      | true => rw [State.interrupt_of_masked (s := s.beginTransition) hi]; exact Nat.zero_le 5
      | false =>
        rw [State.interrupt_of_clear (s := s.beginTransition) hi, State.length_bus_enter]
        exact Nat.le_refl 5
    exact ⟨by omega, by omega⟩
  · have hlen : s.beginTransition.nmi.bus.length = 5 := State.length_bus_enter ..
    exact ⟨by omega, by omega⟩
  · obtain ⟨i, rest, hd⟩ := exists_decode_window s s.config.illegalModes
    have hlen := length_bus_of_step hq hd h
    by_cases hb : i.handler = .brk
    · obtain rfl := brk_operand i hb
      obtain ⟨hw, -⟩ := encode_append_of_decode hd
      exact ⟨Nat.le_of_eq hlen, fun _ => ⟨hq, (List.head_eq_of_cons_eq hw).symm⟩⟩
    · have hle := transactions_le_four (fetched s i) hb
      exact ⟨by omega, by omega⟩

/-- Settles O13: every handler keeps to its columns of the table of writers. -/
theorem registersChangeOnlyAsListed : Obligations.RegistersChangeOnlyAsListed := by
  intro i s t h
  obtain rfl := exec_next h
  obtain ⟨ha, hx, hy, hsp, hpc⟩ := s.run_writesListed i.handler i.operand
  exact ⟨fun hne => (ha.resolve_left hne).imp_right fun ⟨hh, hm⟩ => ⟨hh, operand_implied_of_shift hh hm⟩,
    hx.resolve_left, hy.resolve_left, hsp.resolve_left, hpc.resolve_left, (s.does_run _ _).environment_eq⟩

/-- Settles O3: each list is the bytes of a well-formed instruction, with what follows them. -/
theorem decodeSampleWords : Obligations.DecodeSampleWords := by
  intro m
  have sample {i : Instr} (h : i.handler ≠ .noOp) : decode m (encode i) = .instr i [] := by
    simpa using decode_encode_append (Instr.wf_of_ne_noOp h) []
  have unassigned {o : Operand} (h : m.modeOf 0x02 = o.mode) (rest : List Byte) :
      decode m (encode (.ill02 o) ++ rest) = .instr (.ill02 o) rest :=
    decode_encode_append ((Instr.wf_iff_of_noOp (i := .ill02 o) rfl).2 h.symm) rest
  exact ⟨sample (i := .ldaImm 0x05) (by decide), sample (i := .staAbs 0x0200) (by decide),
    sample (i := .brk) (by decide), sample (i := .jmpInd 0x30FF) (by decide), sample (i := .bne 0xF9) (by decide),
    sample (i := .aslA) (by decide), sample (i := .ldxZpy 0x10) (by decide), sample (i := .ldaIzy 0x20) (by decide),
    sample (i := .pla) (by decide), sample (i := .sbcAbs 0x1234) (by decide), sample (i := .incAbx 0x0300) (by decide),
    sample (i := .sed) (by decide), fun h => unassigned (o := .implied) h [0x11, 0x22],
    fun h => unassigned (o := .immediate 0x11) h [0x22], fun h => unassigned (o := .memory (.absolute 0x2211)) h []⟩

/-- Settles O5: what the bytes at PC decode to is the instruction fetched, in the state its handler starts in. -/
theorem stepRunsDecodedInstruction : Obligations.StepRunsDecodedInstruction := by
  intro s i rest hr hq hd
  rw [step_step s hr hq, fetch_beginTransition hd]

/-- Settles O7: three of the four transitions need the mark of the first reset, and `reset` sets it. -/
theorem onlyResetBeforeReset : Obligations.OnlyResetBeforeReset := by
  refine fun s hr => ⟨fun hq => ?refused, fun hq => ⟨_, step_reset s hq, rfl⟩⟩
  case refused =>
    cases h : s.nextRequest with
    | reset => exact absurd h hq
    | step | interrupt | nmi => simp [step, h, hr]

/-- Settles O9: State.reset bears the mark, lists nothing in memory and has U 1. -/
theorem resetMeetsInvariant : Obligations.ResetMeetsInvariant :=
  ⟨rfl, Memory.nil_wf, rfl⟩

theorem Status.byte_boot : Status.boot.byte = 0x30 := rfl

/-- Settles O48: `reset` makes the two vector reads or none, by the configuration, and overwrites the register file. -/
theorem resetOverwritesRegisterFile : Obligations.ResetOverwritesRegisterFile := by
  intro s lo hi hq h
  rw [State.answers_pair] at h
  obtain ⟨rfl, hrest⟩ := List.cons.inj h
  obtain rfl := List.head_eq_of_cons_eq hrest
  rw [step_reset s hq, State.performReset_eq_afterReads]
  refine ⟨_, rfl, Status.byte_boot, ?_⟩
  cases hc : s.config.resetPcSource <;>
    simp only [State.resetAddrs, resetPc, State.beginTransition_config, hc, if_true, if_false, reduceCtorEq]
  case vector => rfl
  case fixed => rw [State.afterReads_nil]; rfl

/-- Settles O50: the bytes that RTI pulls are those that the entry pushed. -/
theorem rtiUndoesEntry : Obligations.RtiUndoesEntry := by
  intro s ret b vec hram
  obtain ⟨hpc, hsp, hp⟩ := State.leave_enter hram ret b vec
  exact ⟨(s.enter ret b vec).leave, exec_eq_run .rti _, hpc, hsp, (State.leave_a _).trans (s.enter_a ..),
    (State.leave_x _).trans (s.enter_x ..), (State.leave_y _).trans (s.enter_y ..), hp⟩

/-- Settles O51: the entry of the NMI sets I, which masks the `interrupt` after it; in the other order both enter, and
the second pushes the address of the IRQ handler. -/
theorem nmiBeforeInterruptDropsIt : Obligations.NmiBeforeInterruptDropsIt := by
  refine fun s rs hr => ⟨fun hq => ?dropped, fun irqLo irqHi nmiLo nmiHi hq hi hans => ?nested⟩
  case dropped =>
    have hnext : s.nextRequest = .nmi := by simp [State.nextRequest, hq]
    refine ⟨_, step_nmi s hr hnext, ?_⟩
    generalize ht : s.beginTransition.nmi = t
    rw [State.nmi] at ht
    have htq : t.requests = .interrupt :: rs := by simp [← ht, hq]
    have htr : t.resetDone = true := by simp [← ht, hr]
    have hti : t.p.i = true := by simp [← ht]
    have hmasked := (interruptIsMaskedOrTaken t htr (by simp [State.nextRequest, htq])).1 hti
    rwa [htq] at hmasked
  case nested =>
    have hnext : s.nextRequest = .interrupt := by simp [State.nextRequest, hq]
    refine ⟨_, s.beginTransition.interrupt.beginTransition.nmi, step_interrupt s hr hnext, ?_⟩
    rw [State.interrupt_of_clear (s := s.beginTransition) hi]
    generalize ht : s.beginTransition.enter s.beginTransition.pc false 0xFFFE = t
    have htq : t.requests = .nmi :: rs := by simp [← ht, hq]
    have htr : t.resetDone = true := by simp [← ht, hr]
    have htsp : t.sp = s.sp - 3 := by simp [← ht]
    have htc : t.config = s.config := by simp [← ht]
    have hfour : s.answers [0xFFFE, 0xFFFF, 0xFFFA, 0xFFFB] =
        [s.answerAt 0xFFFE, s.answerAfter [0xFFFE] 0xFFFF, s.answerAfter [0xFFFE, 0xFFFF] 0xFFFA,
          s.answerAfter [0xFFFE, 0xFFFF, 0xFFFA] 0xFFFB] := rfl
    rw [hfour] at hans
    simp only [List.cons.injEq] at hans
    obtain ⟨rfl, rfl, rfl, rfl, -⟩ := hans
    have htpc : t.pc = wordOf (s.answerAfter [0xFFFE] 0xFFFF) (s.answerAt 0xFFFE) := by
      rw [← ht, State.enter_pc _ _ _ (by decide) (by decide)]
      rfl
    refine ⟨step_nmi t htr (by simp [State.nextRequest, htq]), htpc, ?sp, ?pc, fun hram => ?returns⟩
    case sp => rw [State.nmi, State.enter_sp, State.beginTransition_sp, htsp, BitVec.sub_sub]; rfl
    case pc =>
      rw [← ht, State.nmi_pc_of_enter]
      rfl
    case returns =>
      obtain ⟨hpc, hsp, -⟩ := State.leave_enter (s := t.beginTransition) (hram.of_config htc) t.pc false nmiVector
      exact ⟨_, exec_eq_run .rti _, hpc.trans htpc, hsp.trans htsp⟩

/-- Settles O52: the word that RTS pulls is the one that JSR pushed, one less than the address after it. -/
theorem rtsReturnsAfterJsr : Obligations.RtsReturnsAfterJsr := by
  intro s a16 pc' a x y p hram
  have hjsr : exec (.jsr a16) s = .next { s.pushWord (s.pc - 1) with pc := a16 } :=
    (exec_eq_run (.jsr a16) s).trans (congrArg _ (s.jsr_absolute a16))
  obtain ⟨hpc, hsp⟩ := State.rts_of_pushWord (w := s.pc - 1)
    (t := { s.pushWord (s.pc - 1) with pc := pc', a := a, x := x, y := y, p := p }) hram rfl rfl
    (by rw [State.pushWord_eq])
  rw [BitVec.sub_add_cancel] at hpc
  exact ⟨_, _, hjsr, exec_eq_run .rts _, hpc, hsp⟩

/-- Settles O53: the byte pulled is the byte pushed. -/
theorem pullAfterPushRestores : Obligations.PullAfterPushRestores := by
  intro s w p hram
  constructor
  case left =>
    obtain ⟨hv, hsp⟩ := State.answerAt_of_push (t := { s.push s.a with a := w }) hram rfl rfl rfl
    refine ⟨_, _, exec_eq_run .pha s, exec_eq_run .pla _, hv, hsp, ?_⟩
    rw [← setZN_eq_withZN]
    exact congrArg s.p.setZN hv
  case right =>
    obtain ⟨hv, hsp⟩ := State.answerAt_of_push (t := { s.push (packP true s.p) with p := p }) hram rfl rfl rfl
    exact ⟨_, _, exec_eq_run .php s, exec_eq_run .plp _, (congrArg unpackP hv).trans (unpackP_packP true s.p), hsp⟩

/-- Settles O55: nine turns of the nine bits of A and C are none, and ROR turns back what ROL turned. -/
theorem nineRotatesRestore : Obligations.NineRotatesRestore := by
  intro s
  refine ⟨⟨_, execTimes_eq_iterate .rolA 9 s, a_and_carry_eq ?_⟩,
    ⟨_, execTimes_eq_iterate .rorA 9 s, a_and_carry_eq ?_⟩,
    ⟨_, _, exec_eq_run .rolA s, exec_eq_run .rorA _, a_and_carry_eq ?_⟩⟩
  · exact ((carriedA_rolA.iterate_right 9).eq s).trans (iterate_nine_rotateLeft _)
  · exact ((carriedA_rorA.iterate_right 9).eq s).trans (iterate_nine_rotateRight _)
  · exact ((carriedA_rorA.eq _).trans (congrArg rotateRight (carriedA_rolA.eq s))).trans (rotateRight_rotateLeft _)

/-- Settles O45: the handler of each of the 105 is the no-op. -/
theorem unassignedOpcodesDoNothing : Obligations.UnassignedOpcodesDoNothing := by
  intro o
  constructorm* _ ∧ _
  all_goals exact noOps_of_handler rfl

end Sys2Proof.Machine
end
